-- ==== Sys2Proof/Word.lean ====
section
/-! DEFINITION. The byte type and the label type of the JT-3220. -/

namespace Sys2Proof

/-- One byte of a frame, a block, a bank or a label. -/
abbrev Byte := BitVec 8

/-- A cartridge label: its ASCII characters, one byte each (R2). A readable label has 8; a provisional one may be shorter (R4). -/
abbrev Label := List Byte

end Sys2Proof
end

