-- ==== Sys2Proof/Syntax.lean ====
section
/-! DEFINITION. The commands of the JT-3220: one constructor of `Instr` per row of spec/opcode_table.json, with the operands the
rules give it. A request row carries its requester and its arguments as they stand in the request frame; a report row carries what
the device or line reports. -/

namespace Sys2Proof

/-- The two serial link ports. -/
inductive Link
  | a | b
  deriving DecidableEq, Repr

/-- A requester: Link A, Link B or the panel. -/
inductive Requester
  | link (l : Link)
  | panel
  deriving DecidableEq, Repr

/-- The two removable magazines: L holds S01 to S12, R holds S13 to S24. -/
inductive Mag
  | l | r
  deriving DecidableEq, Repr

/-- A stream channel, and the transport port wired to it (C0 with T0, C1 with T1). -/
inductive Chan
  | c0 | c1
  deriving DecidableEq, Repr

/-- The elements (R1): the manual says 27 and lists these 28. `slot i` is S01 for i = 0 up to S24 for i = 23. -/
inductive Element
  | slot (i : Fin 24)
  | mail
  | transport (c : Chan)
  | gripper
  deriving DecidableEq, Repr

/-- The key switch's two positions (R9). -/
inductive Key
  | lock | opened
  deriving DecidableEq, Repr

/-- A cartridge's write-protect tab as a transport reports it (R126). -/
inductive TabReport
  | set | clear
  deriving DecidableEq, Repr

/-- What a FETCH reports of the gripped cartridge: a label, or LABEL_UNREADABLE (R33). -/
inductive LabelRead
  | label (l : Label)
  | unreadable
  deriving DecidableEq, Repr

/-- What a READ reports: a label, unreadable, or no cartridge (R33). -/
inductive ReadReport
  | label (l : Label)
  | unreadable
  | noCartridge
  deriving DecidableEq, Repr

/-- The kind of a transport FAULT report (R128). -/
inductive FaultKind
  | media | hardware
  deriving DecidableEq, Repr

/-- A transport's condition as it answers at power-up or after a reset (R138): no cartridge; a cartridge threaded at position 0 with
its tab; a fault, with or without a cartridge. -/
inductive TransportCondition
  | noCartridge
  | mounted (tab : TabReport)
  | fault (holds : Bool)
  deriving DecidableEq, Repr

/-- The sense lines read at power-up (R24): `true` means the switch reads OPEN. -/
structure Sense where
  doorL : Bool
  doorR : Bool
  mail : Bool
  key : Key
  deriving DecidableEq, Repr

/-- The sensor's answer to a reading (R46): a value in the units of its quantity, or no acknowledge. -/
inductive SensorReply
  | value (v : Int)
  | noAcknowledge
  deriving DecidableEq, Repr

/-- IMPORT's destination (R19): ANY, or an element id as sent. -/
inductive ImportDest
  | any
  | element (id : Nat)
  deriving DecidableEq, Repr

/-- UNLOAD's destination (R27): HOME, or an element id as sent. -/
inductive UnloadDest
  | home
  | element (id : Nat)
  deriving DecidableEq, Repr

/-- READ_SET's part (R76); `other` is a part that is neither. -/
inductive SetPart
  | summary
  | index (first : Nat)
  | other (k : Nat)
  deriving DecidableEq, Repr

/-- LIST_SETS' filter (R77); `other` is none of the three. -/
inductive SetFilter
  | all
  | owner (link : Nat)
  | cartridge (l : Label)
  | other (k : Nat)
  deriving DecidableEq, Repr

/-- OPEN_SET's target (R109); `other` is neither a label nor POOL. -/
inductive TargetArg
  | label (l : Label)
  | pool
  | other (k : Nat)
  deriving DecidableEq, Repr

/-- SET_VERIFY_POLICY's pattern with its numbers as sent (R140); `other` is no pattern kind. -/
inductive PatternArg
  | all
  | everyNth (n : Nat)
  | run (k t : Nat)
  | other (k : Nat)
  deriving DecidableEq, Repr

/-- RESTORE's count (R155): a number, or ALL; `other` is neither. -/
inductive CountArg
  | count (n : Nat)
  | all
  | other (k : Nat)
  deriving DecidableEq, Repr

/-- A request with its arguments, as the port reads it from a REQUEST body (R176). Element ids, named values and numbers stand as sent, so
that the owning block judges them. -/
inductive Req
  | readInventory (e : Nat)
  | reserve (e : Nat)
  | release (e : Nat)
  | setProtect (dir idx : Nat)
  | openDoor (m : Nat)
  | grantQuiesce (m : Nat)
  | withdrawQuiesce (m : Nat)
  | importCart (d : ImportDest)
  | exportCart (l : Label)
  | move (src dst : Nat)
  | load (src dst : Nat)
  | unload (src : Nat) (dst : UnloadDest)
  | cancelMove (id : Nat)
  | resumePicker
  | readQueue
  | setWatch (w en q : Nat) (thr : Int) (dir act : Nat)
  | setClimateInterval (secs : Nat)
  | setAcclimation (mins : Nat)
  | clearAcclimation (l : Label)
  | readClimate
  | readCartridge (l : Label)
  | readSet (set : Nat) (part : SetPart)
  | listSets (f : SetFilter) (start : Nat)
  | expireSet (set today : Nat)
  | setRetention (set days : Nat)
  | reclaim (l : Label)
  | forgetCartridge (l : Label)
  | writeDictionary (slot : Nat) (bytes : List Byte)
  | readDictionary (slot : Nat)
  | openSet (ch : Nat) (target : TargetArg) (hint dict ret today yield : Nat)
  | sync (set : Nat)
  | closeSet (set : Nat)
  | abortSet (set : Nat)
  | verifySet (set : Nat)
  | cancelVerify (set : Nat)
  | setVerifyPolicy (trig skip passes mode : Nat) (pat : PatternArg) (overlap : Nat)
  | readVerify
  | restore (set first : Nat) (count : CountArg) (damage : Nat)
  | cancelRestore (id : Nat)
  | checkpoint
  | setAutoCheckpoint (v : Nat)
  | readStore
  | reload
  | recoverCartridge (l : Label)
  | linkReset (l : Nat)
  | libraryReset
  deriving DecidableEq, Repr

/-- The commands: one constructor per row of spec/opcode_table.json. `p` is the requester whose head request is taken. -/
inductive Instr
  | powerUp (sense : Sense) (t0 t1 : TransportCondition) (imageIntact : Bool)
  | requestFrame (p : Requester) (tag code : Nat) (args : List Byte)
  | badRequest (p : Requester)
  | readInventory (p : Requester) (e : Nat)
  | reserve (p : Requester) (e : Nat)
  | release (p : Requester) (e : Nat)
  | setProtect (p : Requester) (dir idx : Nat)
  | openDoor (p : Requester) (m : Nat)
  | grantQuiesce (p : Requester) (m : Nat)
  | withdrawQuiesce (p : Requester) (m : Nat)
  | importCart (p : Requester) (d : ImportDest)
  | exportCart (p : Requester) (l : Label)
  | move (p : Requester) (src dst : Nat)
  | load (p : Requester) (src dst : Nat)
  | unload (p : Requester) (src : Nat) (dst : UnloadDest)
  | cancelMove (p : Requester) (id : Nat)
  | resumePicker (p : Requester)
  | readQueue (p : Requester)
  | setWatch (p : Requester) (w en q : Nat) (thr : Int) (dir act : Nat)
  | setClimateInterval (p : Requester) (secs : Nat)
  | setAcclimation (p : Requester) (mins : Nat)
  | clearAcclimation (p : Requester) (l : Label)
  | readClimate (p : Requester)
  | readCartridge (p : Requester) (l : Label)
  | readSet (p : Requester) (set : Nat) (part : SetPart)
  | listSets (p : Requester) (f : SetFilter) (start : Nat)
  | expireSet (p : Requester) (set today : Nat)
  | setRetention (p : Requester) (set days : Nat)
  | reclaim (p : Requester) (l : Label)
  | forgetCartridge (p : Requester) (l : Label)
  | writeDictionary (p : Requester) (slot : Nat) (bytes : List Byte)
  | readDictionary (p : Requester) (slot : Nat)
  | openSet (p : Requester) (ch : Nat) (target : TargetArg) (hint dict ret today yield : Nat)
  | sync (p : Requester) (set : Nat)
  | closeSet (p : Requester) (set : Nat)
  | abortSet (p : Requester) (set : Nat)
  | verifySet (p : Requester) (set : Nat)
  | cancelVerify (p : Requester) (set : Nat)
  | setVerifyPolicy (p : Requester) (trig skip passes mode : Nat) (pat : PatternArg) (overlap : Nat)
  | readVerify (p : Requester)
  | restore (p : Requester) (set first : Nat) (count : CountArg) (damage : Nat)
  | cancelRestore (p : Requester) (id : Nat)
  | checkpoint (p : Requester)
  | setAutoCheckpoint (p : Requester) (v : Nat)
  | readStore (p : Requester)
  | reload (p : Requester)
  | recoverCartridge (p : Requester) (l : Label)
  | linkReset (p : Requester) (l : Nat)
  | libraryReset (p : Requester)
  | dataOut (l : Link) (ch flags : Nat) (payload : List Byte)
  | creditFrameReceived (l : Link) (ch count : Nat)
  | damagedFrame (p : Requester)
  | frameSent (l : Link)
  | panelRead (whole : Bool)
  | lockGained (l : Link)
  | lockLost (l : Link)
  | offlineTimerExpiry (l : Link)
  | doorSwitchOpen (m : Mag)
  | doorSwitchClosed (m : Mag)
  | mailSwitchOpen
  | mailSwitchClosed
  | keySwitchChange (k : Key)
  | askTimerExpiry (m : Mag)
  | doorOpenTimerExpiry (m : Mag)
  | mailOpenTimerExpiry
  | doorUnlock (m : Mag)
  | orderStart
  | fetchDone (r : LabelRead)
  | fetchEmpty
  | putDone
  | readDone (r : ReadReport)
  | homeDone (holding transportHolds : Bool)
  | gripFault
  | pathBlocked
  | commandTimerExpiry
  | threaded (c : Chan) (tab : TabReport)
  | ejected (c : Chan)
  | positioned (c : Chan)
  | blockRead (c : Chan) (bytes : List Byte)
  | blockUnreadable (c : Chan)
  | endOfData (c : Chan) (recordedEnd : Nat)
  | blockWritten (c : Chan)
  | endOfMedia (c : Chan)
  | transportFault (c : Chan) (k : FaultKind)
  | transportOrderTimerExpiry (c : Chan)
  | transportResetDone (c : Chan) (r : TransportCondition)
  | coderResult (c : Chan)
  | expanderReport (c : Chan)
  | bankCodingStart (c : Chan)
  | creditGrant (c : Chan)
  | syncComplete (c : Chan)
  | summaryBlockWrite (c : Chan)
  | suspensionComplete (c : Chan)
  | verifyEntryStart
  | restorePlacement
  | sampleIntervalExpiry
  | sensorAnswer (r : SensorReply)
  | sensorNoAnswer
  | minuteTimerExpiry
  | needCartridgeTimerExpiry (c : Chan)
  | stallTimerExpiry (c : Chan)
  | flashEraseDone
  | flashProgramDone (pageMatches lastPage : Bool)
  | commitMarkDone
  | flashErrorReport
  | flashTimerExpiry
  | imageReadDone (intact : Bool)
  deriving DecidableEq, Repr

end Sys2Proof
end

