-- ==== Sys2Proof/Config.lean ====
section
/-! DEFINITION. The numbers the manual fixes for the part: room in queues and tables, sizes, capacities. -/

namespace Sys2Proof.Config

/-- Move queue places (R26). -/
def moveQueueRoom : Nat := 8
/-- Room of the list of held offers (R26). -/
def heldOfferRoom : Nat := 32
/-- Order ids and restore ids run from 1 to this (R25, R154). -/
def lastId : Nat := 255
/-- Cartridge records the catalog holds at most (R59). -/
def cartridgeRoom : Nat := 64
/-- Set records the catalog holds at most (R63). -/
def setRoom : Nat := 256
/-- Last set id, and last generation of a cartridge (R63, R73). -/
def lastSetId : Nat := 65535
/-- Entries of a cartridge's set list at most (R58). -/
def setListRoom : Nat := 32
/-- Extents of a set at most (R65). -/
def extentRoom : Nat := 4
/-- Index points of a set at most (R67). -/
def indexRoom : Nat := 64
/-- Index interval of a new set (R67). -/
def firstInterval : Nat := 64
/-- Longest retention in days (R69). -/
def maxRetention : Nat := 3650
/-- Bytes a staging bank holds (R103). -/
def bankBytes : Nat := 65536
/-- Record ends a bank's list holds (R103). -/
def bankEnds : Nat := 255
/-- Payload bytes a data frame carries at most (R104). -/
def frameBytes : Nat := 4096
/-- Write credits a grant tops the outstanding count up to (R106). -/
def creditTarget : Nat := 16
/-- Receive credits a restore holds at most (R162). -/
def receiveCreditMax : Nat := 255
/-- Labels a session's passed-over list holds (R108). -/
def passedRoom : Nat := 64
/-- Bytes of a dictionary slot at most (R81). -/
def dictBytes : Nat := 1024
/-- Verify queue places (R139). -/
def verifyRoom : Nat := 16
/-- Numbers a bad-block list holds (R148). -/
def badListRoom : Nat := 8
/-- Restore queue places (R154). -/
def restoreRoom : Nat := 4
/-- Rebuilt sets a recovery's work area holds (R173). -/
def recoverRoom : Nat := 32
/-- Request places of a link and of the panel (R176, R180). -/
def linkRequestRoom : Nat := 8
def panelRequestRoom : Nat := 2
/-- Notice places of a link and of the panel (R177). -/
def linkNoticeRoom : Nat := 16
def panelNoticeRoom : Nat := 4
/-- Tape frame size in bytes and the fixed overhead of a block (R122, R131). -/
def tapeFrame : Nat := 1024
def blockOverhead : Nat := 56
/-- Frames set aside on every cartridge (R131). -/
def reservedFrames : Nat := 2
/-- Frames an unusable block counts for in a recovery scan (R173). -/
def lostBlockFrames : Nat := 65
/-- Divisor of the capacity estimate (R137). -/
def estimateDivisor : Nat := 102400

end Sys2Proof.Config
end

