-- ==== Sys2Proof/Machine/State.lean ====
section
/-! DEFINITION. The state of the JT-3220 as plain data: every record, queue, buffer, mode, timer and flag the manual names, the state
after reset, and the reasons a step can stop. -/

namespace Sys2Proof.Machine

/-! ## Pairs of like things -/

/-- One value for each link. -/
structure PerLink (α : Type) where
  a : α
  b : α
  deriving DecidableEq, Repr

def PerLink.get {α : Type} (p : PerLink α) : Link → α
  | .a => p.a
  | .b => p.b

def PerLink.set {α : Type} (p : PerLink α) : Link → α → PerLink α
  | .a, v => { p with a := v }
  | .b, v => { p with b := v }

/-- One value for each channel, and for each transport. -/
structure PerChan (α : Type) where
  c0 : α
  c1 : α
  deriving DecidableEq, Repr

def PerChan.get {α : Type} (p : PerChan α) : Chan → α
  | .c0 => p.c0
  | .c1 => p.c1

def PerChan.set {α : Type} (p : PerChan α) : Chan → α → PerChan α
  | .c0, v => { p with c0 := v }
  | .c1, v => { p with c1 := v }

/-- One value for each magazine. -/
structure PerMag (α : Type) where
  l : α
  r : α
  deriving DecidableEq, Repr

def PerMag.get {α : Type} (p : PerMag α) : Mag → α
  | .l => p.l
  | .r => p.r

def PerMag.set {α : Type} (p : PerMag α) : Mag → α → PerMag α
  | .l, v => { p with l := v }
  | .r, v => { p with r := v }

/-- The two watches (R47). -/
inductive WatchId
  | w1 | w2
  deriving DecidableEq, Repr

/-- One value for each watch. -/
structure PerWatch (α : Type) where
  w1 : α
  w2 : α
  deriving DecidableEq, Repr

def PerWatch.get {α : Type} (p : PerWatch α) : WatchId → α
  | .w1 => p.w1
  | .w2 => p.w2

def PerWatch.set {α : Type} (p : PerWatch α) : WatchId → α → PerWatch α
  | .w1, v => { p with w1 := v }
  | .w2, v => { p with w2 := v }

/-- The two staging banks of a channel (R103). -/
inductive BankIx
  | b0 | b1
  deriving DecidableEq, Repr

/-! ## Codes (11.7) -/

/-- Outcome codes 0 to 26, then reason codes 64 to 77. A reason field holds either. -/
inductive Code
  | ok | accepted | queueFull | badRequest | badArgument | notPermitted | keyLocked | reserved | notOwner
  | isProtected | tabProtected | noCartridge | elementFull | notFound | wrongState | inUse | catalogFull | doorBusy
  | doorRefused | channelBusy | busy | retentionHeld | dictionaryInUse | dictionaryChanged | setExpired
  | pickerFaulted | mismatch
  | gripFault | pathBlocked | timeout | readFault | writeFault | mediaFault | codingFault | linkDamage | overrun
  | stalled | cancelled | setTooLong | resumeFailed | reset
  deriving DecidableEq, Repr

/-! ## Inventory (chapter 1) -/

/-- Occupancy of an element (R1). -/
inductive Occupancy
  | empty | full | uncertain
  deriving DecidableEq, Repr

/-- Tab state of a cartridge entry (R2). -/
inductive Tab
  | unknown | set | clear
  deriving DecidableEq, Repr

/-- A cartridge entry (R2). The class follows from the label (R3) and the catalogued flag from the catalog (R2), so neither is stored a
second time. A label is absent for a cartridge found in a transport at power-up and not yet read (R23), and for one just placed in M. -/
structure Entry where
  label : Option Label
  home : Option (Fin 24)
  acclim : Nat
  tab : Tab
  deriving DecidableEq, Repr

/-- An element record (R1); the element's id is its place in the table. -/
structure ElementRec where
  occ : Occupancy
  entry : Option Entry
  reserved : Option Requester
  deriving DecidableEq, Repr

/-- Direction of the protect code (R7). -/
inductive ProtectDir
  | bottom | top
  deriving DecidableEq, Repr

/-- The protect code (R7). -/
structure Protect where
  dir : ProtectDir
  idx : Nat
  deriving DecidableEq, Repr

/-- Door states (1.5). -/
inductive DoorState
  | locked | asking | unlocked | opened | audit
  deriving DecidableEq, Repr

/-- A magazine's door record (1.5). `asked` marks the links that were sent QUIESCE_ASK, to whom a refusal is told (R11). -/
structure Door where
  state : DoorState
  requester : Option Requester
  granted : PerLink Bool
  asked : PerLink Bool
  askTimer : Bool
  openTimer : Bool
  deriving DecidableEq, Repr

/-- Mail-slot states (1.6). -/
inductive MailState
  | locked | openImport | openExport
  deriving DecidableEq, Repr

/-- IMPORT or EXPORT, as a MAIL_SLOT notice names it. -/
inductive MailDir
  | imported | exported
  deriving DecidableEq, Repr

/-- The mail slot (1.6): its state, requester, the import's destination (`none` is ANY) and the slot reserved for it (R19), the label being
exported (R21), the 60 s timer, whether the switch has opened in this state, and whether a forced opening awaits its CLOSED report (R19). -/
structure MailSlot where
  state : MailState
  requester : Option Requester
  dest : Option (Fin 24)
  reservedSlot : Option (Fin 24)
  label : Option Label
  timer : Bool
  switchOpen : Bool
  forced : Bool
  deriving DecidableEq, Repr

/-- The Inventory Table. The manual says 27 elements and lists 28: the 24 slots, M, T0, T1 and P (R1, 1.1); all 28 have a record. -/
structure Inventory where
  elements : Vector ElementRec 28
  protect : Protect
  doors : PerMag Door
  mail : MailSlot
  key : Key
  deriving DecidableEq, Repr

/-! ## Picker (chapter 2) -/

/-- Order kinds (R25). -/
inductive OrderKind
  | move | load | unload | audit | scanAll
  deriving DecidableEq, Repr

/-- An order's source (R25). -/
inductive OrderSource
  | element (e : Element)
  | magazine (m : Mag)
  | none
  deriving DecidableEq, Repr

/-- An order's destination (R25): an element, HOME, ANY (an import move's), or none. -/
inductive OrderDest
  | element (e : Element)
  | home
  | any
  | none
  deriving DecidableEq, Repr

/-- Purpose of a LOAD (R25). -/
inductive Purpose
  | write | restore | verify | recover | none
  deriving DecidableEq, Repr

/-- The block that raised an internal order (R25). -/
inductive Raiser
  | chan (c : Chan)
  | restoreUnit (c : Chan)
  | verifyUnit
  | storeController
  | inventory
  deriving DecidableEq, Repr

/-- The stored part of an order's state (R25). An order that is neither RUNNING nor in EJECT_WAIT is DEFERRED exactly while a condition of R29
holds and WAITING otherwise, so those two are read off the library's state and not stored. -/
inductive OrderState
  | ready | ejectWait | running
  deriving DecidableEq, Repr

/-- What a MOVE or an AUDIT of the Inventory Table is part of: an import move with the slot reserved for it (R19), an export move (R21), the scan
after an export with its requester and label (R22), the SCAN_ALL of power-up or of RELOAD (R23). -/
inductive OrderRole
  | plain
  | importMove (reservedSlot : Option (Fin 24))
  | exportMove (label : Label)
  | exportScan (requester : Requester) (label : Label)
  | powerUpScan
  | reloadScan
  deriving DecidableEq, Repr

/-- A move order record (R25); its age is its place in the queue. `unloadAfter` marks a RUNNING LOAD whose activity has ended and which raises an
UNLOAD HOME when it completes (R116, R151, R165). -/
structure Order where
  id : Nat
  requester : Option Requester
  internal : Bool
  raisedBy : Option Raiser
  kind : OrderKind
  source : OrderSource
  dest : OrderDest
  purpose : Purpose
  wanted : Option Label
  state : OrderState
  retry : Nat
  role : OrderRole
  unloadAfter : Bool
  deriving DecidableEq, Repr

/-- Picker states (R39). -/
inductive PickerState
  | homing | idle | busy | faulted
  deriving DecidableEq, Repr

/-- Commands of the mechanism port (R33). -/
inductive MotionCmd
  | home
  | fetch (e : Element)
  | put (e : Element)
  | read (e : Element)
  deriving DecidableEq, Repr

/-- What the outstanding motion command is part of (R32 to R40, R20, R36); `scanStopped` is the last READ of an AUDIT whose door has opened again (R17). -/
inductive Phase
  | idle
  | fetching (dest : Element)
  | putting (dest : Element)
  | puttingBack
  | importRead
  | scanning (rest : List Element)
  | scanStopped
  | scanGripRead
  | scanGripPut (dest : Element)
  | homing
  | homeReading (e : Element)
  | homePutBack (dest : Element)
  deriving DecidableEq, Repr

/-- What RESUME_PICKER needs of the order a fault ended (R40): its source, the destination of a failed PUT, the requester it ran for. -/
structure FailedOrder where
  source : Option Element
  putDest : Option Element
  requester : Option Requester
  deriving DecidableEq, Repr

/-- The Picker Unit. `cmd` is the command outstanding, whose 60 s timer runs exactly while it is outstanding (R33). `auditOffers` are the AUDIT and
SCAN_ALL orders held again after a fault until the picker next enters IDLE (R38). `homeRetry` counts the GRIP_FAULT retries of the put-back after a HOME (R37). `carried` is the entry of P while a failed PUT's
destination is read (R40). `passed` are the places the running SCAN_ALL has passed over (R36). -/
structure Picker where
  state : PickerState
  lastFault : Option Code
  cmd : Option MotionCmd
  phase : Phase
  queue : List Order
  held : List Order
  auditOffers : List Order
  nextId : Nat
  failed : Option FailedOrder
  carried : Option Entry
  homeRetry : Nat
  passed : List Element
  deriving DecidableEq, Repr

/-! ## Climate (chapter 3) -/

inductive Quantity
  | temperature | humidity
  deriving DecidableEq, Repr

inductive Direction
  | above | below
  deriving DecidableEq, Repr

inductive WatchAction
  | notify | hold
  deriving DecidableEq, Repr

/-- The setting fields of a watch record (R47). -/
structure Watch where
  enabled : Bool
  quantity : Quantity
  threshold : Int
  direction : Direction
  action : WatchAction
  deriving DecidableEq, Repr

/-- The result fields of a watch record (R47). -/
structure WatchResult where
  valid : Bool
  crossed : Bool
  deriving DecidableEq, Repr

/-- Sampling states (3.3); the interval timer runs exactly in RUNNING. -/
inductive Sampling
  | running | suspended | stopped
  deriving DecidableEq, Repr

/-- Cause of a HOLD notice (R52). -/
inductive HoldCause
  | watch (w : WatchId)
  | sensor
  | cleared
  deriving DecidableEq, Repr

/-- A last reading with its age in seconds (R46, R53). -/
structure Reading where
  value : Int
  age : Nat
  deriving DecidableEq, Repr

/-- The Climate Monitor. `reading` is the watch whose reading is in progress. -/
structure Climate where
  watches : PerWatch Watch
  results : PerWatch WatchResult
  interval : Nat
  sampling : Sampling
  next : WatchId
  reading : Option WatchId
  failures : Nat
  failSafe : Bool
  hold : Bool
  lastTemperature : Option Reading
  lastHumidity : Option Reading
  acclimation : Nat
  minuteTimer : Bool
  deriving DecidableEq, Repr

/-! ## Catalog (chapter 4) -/

/-- Cartridge states (R60). -/
inductive CartState
  | blank | scratch | opened | full | unknown | suspect
  deriving DecidableEq, Repr

/-- A cartridge record (R58); `loc = none` is OUTSIDE. The class follows from the label (R3). -/
structure Cart where
  label : Label
  generation : Nat
  state : CartState
  loc : Option Element
  frames : Nat
  eod : Nat
  early : Bool
  native : Nat
  coded : Nat
  sets : List Nat
  deriving DecidableEq, Repr

/-- Set states (R64). -/
inductive SetState
  | opening | writing | closed | truncated | expired
  deriving DecidableEq, Repr

/-- An extent (R65). -/
structure Extent where
  label : Label
  firstPos : Nat
  firstBlock : Nat
  count : Nat
  deriving DecidableEq, Repr

/-- An index point (R67). -/
structure IndexPoint where
  block : Nat
  record : Nat
  cont : Bool
  deriving DecidableEq, Repr

/-- Verify status (R62). -/
inductive VerifyStatus
  | never | passed | sampled | failed | incomplete | skipped
  deriving DecidableEq, Repr

/-- A set record (R62). -/
structure SetRec where
  id : Nat
  owner : Link
  state : SetState
  writtenDay : Nat
  retention : Nat
  dict : Nat
  dictGen : Nat
  extents : List Extent
  blocks : Nat
  records : Nat
  native : Nat
  coded : Nat
  index : List IndexPoint
  interval : Nat
  verify : VerifyStatus
  passes : Nat
  bad : Nat
  badList : List Nat
  badMore : Bool
  deriving DecidableEq, Repr

/-- The Volume Catalog. Set records stand in ascending order of id. -/
structure Catalog where
  carts : List Cart
  sets : List SetRec
  nextSetId : Nat
  deriving DecidableEq, Repr

/-! ## Dictionaries and coding (chapter 5) -/

/-- A dictionary slot (R81). -/
structure DictSlot where
  bytes : List Byte
  generation : Nat
  deriving DecidableEq, Repr

/-- Slots 1 to 3; slot 0 is always empty at generation 0 and is not stored (R81). -/
structure Dicts where
  s1 : DictSlot
  s2 : DictSlot
  s3 : DictSlot
  deriving DecidableEq, Repr

/-- A bank's stamp (R105). -/
structure Stamp where
  block : Nat
  record : Nat
  cont : Bool
  before : Nat
  deriving DecidableEq, Repr

/-- The coder's result for one bank (R93), with the record ends and the stamp its block carries. -/
structure CodedBlock where
  bank : BankIx
  native : Nat
  raw : Bool
  payload : List Byte
  dict : Nat
  dictGen : Nat
  nativeCrc : BitVec 32
  ends : List Nat
  stamp : Stamp
  deriving DecidableEq, Repr

/-- A block header's fields (R122). -/
structure Header where
  kind : Nat
  passTag : Nat
  raw : Bool
  endOfSet : Bool
  truncated : Bool
  continues : Bool
  cont : Bool
  dict : Nat
  set : Nat
  extent : Nat
  ends : Nat
  block : Nat
  native : Nat
  coded : Nat
  record : Nat
  recordsBefore : Nat
  label : Label
  generation : Nat
  dictGen : Nat
  day : Nat
  before : Nat
  deriving DecidableEq, Repr

/-- A block as read: header, record-end offsets, payload and the two check values (R122). -/
structure TapeBlock where
  hdr : Header
  ends : List Nat
  payload : List Byte
  blockCrc : BitVec 32
  nativeCrc : BitVec 32
  deriving DecidableEq, Repr

/-- Fault kinds of an expansion (R94, R96). -/
inductive CodingFault
  | badSlot | dictionaryGeneration | badLength | rawLength | truncatedToken | distanceRange | beforeDictionary | overlong | short
  deriving DecidableEq, Repr

/-! ## Channels and sessions (chapter 6) -/

/-- Channel modes (R102). -/
inductive ChanMode
  | idle | write | restore | verify
  deriving DecidableEq, Repr

/-- Bank states (R103). -/
inductive BankState
  | empty | filling | closed | coding | writing | retained | lent
  deriving DecidableEq, Repr

/-- A staging bank (R103); its byte count is the length of `bytes`. -/
structure Bank where
  state : BankState
  bytes : List Byte
  ends : List Nat
  stamp : Option Stamp
  deriving DecidableEq, Repr

/-- The coded buffer (R102): free, held by a block, passed to a restore (R118), or holding the raw bytes of a block a restore expands (R161). -/
inductive CodedBuf
  | free
  | held (b : CodedBlock)
  | lent
  | raw (b : TapeBlock)
  deriving DecidableEq, Repr

/-- The coder (R84): IDLE, or CODING a bank with the slot's contents and generation as they stood when it started (R81). Its hash table, window and pending run live only within one coding, which is one step (CODER_RESULT). -/
inductive Coder
  | idle
  | coding (b : BankIx) (dict : DictSlot)
  deriving DecidableEq, Repr

/-- The expander (R84): IDLE, or EXPANDING a block with the dictionary slot it names as it stood when it started (R81); `none` where there is no such slot. -/
inductive Expander
  | idle
  | expanding (b : TapeBlock) (dict : Option DictSlot)
  deriving DecidableEq, Repr

/-- Session states (R108). -/
inductive SessionState
  | opening | loading | appendingCheck | streaming | spanning | needCartridge | suspending | suspended | resuming | closing | aborting
  deriving DecidableEq, Repr

/-- Which summary block is meant: with flag CLOSED, TRUNCATED or CONTINUES (R122). -/
inductive SummaryFlag
  | closed | truncated | continues
  deriving DecidableEq, Repr

/-- What an abort in progress still needs (R116): its reason, whether its cause forbids the summary, whether the cartridge is left mounted. -/
structure AbortInfo where
  reason : Code
  noSummary : Bool
  noUnload : Bool
  deriving DecidableEq, Repr

/-- A write session context (R108). After `unloaded` come the counts the stamp rule keeps over the set's closed banks (R105), the number of banks a
pending SYNC waits for (R114), whether the current cartridge holds the set's CONTINUES summary (R116), and the abort in progress. -/
structure Session where
  setId : Nat
  owner : Link
  target : Option Label
  hint : Nat
  dict : Nat
  retention : Nat
  today : Nat
  yield : Bool
  state : SessionState
  chosen : Option Label
  passed : List Label
  syncPending : Bool
  closePending : Bool
  kept : Option BankIx
  unloaded : Bool
  needTimer : Bool
  banksClosed : Nat
  endsBefore : Nat
  bytesBefore : Nat
  endedOnRecord : Bool
  syncUpTo : Nat
  contWritten : Bool
  abort : Option AbortInfo
  deriving DecidableEq, Repr

/-- Who has claimed a channel that another activity still runs on, or that is reserved for a recovery (R109, R150, R158, R172). -/
inductive Claim
  | session
  | restore (id : Nat)
  | recovery
  deriving DecidableEq, Repr

/-- An activity that has ended while an order of it is outstanding (R148, R165): for whom the UNLOAD is raised, if one is. -/
structure Drain where
  requester : Requester
  unload : Bool
  deriving DecidableEq, Repr

/-- A channel record (R102). `credits` is the count of write credits outstanding (R106). -/
structure Channel where
  mode : ChanMode
  bank0 : Bank
  bank1 : Bank
  buf : CodedBuf
  coder : Coder
  expander : Expander
  credits : Nat
  session : Option Session
  claim : Option Claim
  drain : Option Drain
  deriving DecidableEq, Repr

/-! ## Transports (chapter 7) -/

/-- Transport states (R125). -/
inductive TransportState
  | empty | threading | mounted | moving | reading | writing | ejecting | ejected | faulted
  deriving DecidableEq, Repr

/-- What a transport order serves: the activity and its point in that activity. -/
inductive Task
  | sThread | sVolLocate | sVolRead | sEndLocate | sEndRead | sVolWriteLocate | sVolWrite
  | sDataLocate (b : BankIx) | sDataWrite (b : BankIx)
  | sSumLocate (f : SummaryFlag) | sSumWrite (f : SummaryFlag)
  | vThread | vVolLocate | vVolRead | vLocate | vRead
  | rThread | rVolLocate | rVolRead | rLocate | rRead
  | cThread | cVolLocate | cVolRead | cLocate | cRead
  | plainThread
  | eject
  | dropped
  deriving DecidableEq, Repr

/-- Transport orders (R126, R127). -/
inductive TOrderKind
  | thread
  | eject
  | locate (pos : Nat)
  | read
  | write (bytes : List Byte)
  deriving DecidableEq, Repr

structure TOrder where
  kind : TOrderKind
  task : Task
  deriving DecidableEq, Repr

/-- A transport record (7.3). The 600 s timer runs exactly while `order` is outstanding. `rejected` is an order that reached the port in a state that
does not take it, which the command that sent it answers FAULT before it ends (R125, R129). `present` is the port's report whether it holds a cartridge (R23, R40), `tabSeen` the tab it
reported, and `resetting` that a reset out of FAULTED is in progress (R138). -/
structure Transport where
  state : TransportState
  pos : Nat
  order : Option TOrder
  rejected : Option Task
  pendingEject : Bool
  present : Bool
  tabSeen : Option TabReport
  resetting : Bool
  deriving DecidableEq, Repr

/-! ## Verify (chapter 8) -/

inductive Pattern
  | all
  | everyNth (n : Nat)
  | run (k t : Nat)
  deriving DecidableEq, Repr

inductive Trigger
  | onClose | manual
  deriving DecidableEq, Repr

inductive VerifyMode
  | quick | full
  deriving DecidableEq, Repr

inductive Overlap
  | queue | drop
  deriving DecidableEq, Repr

/-- A verify policy (R140). -/
structure Policy where
  trigger : Trigger
  skip : Nat
  passes : Nat
  mode : VerifyMode
  pattern : Pattern
  overlap : Overlap
  deriving DecidableEq, Repr

inductive VerifyOrigin
  | request | auto
  deriving DecidableEq, Repr

inductive VerifyState
  | waiting | running | paused
  deriving DecidableEq, Repr

/-- A verify entry (R139): after the working results come the current pass's place (expected block, extent), the fault kind of the last CODING_FAULT
(R152), the passes this entry completed (R148), the channel it runs on, and whether it waits for its cartridge (R144). -/
structure VerifyEntry where
  set : Nat
  origin : VerifyOrigin
  requestedBy : Option Requester
  mode : VerifyMode
  pattern : Pattern
  passes : Nat
  passesLeft : Nat
  state : VerifyState
  pauseAsked : Bool
  resume : Option Nat
  bad : Nat
  badList : List Nat
  badMore : Bool
  runRec : Option Nat
  expected : Nat
  extent : Nat
  lastFault : Option CodingFault
  done : Nat
  chan : Option Chan
  waits : Bool
  deriving DecidableEq, Repr

/-- The Verify Unit. -/
structure VerifyUnit where
  queue : List VerifyEntry
  policies : PerLink Policy
  skips : PerLink Nat
  deriving DecidableEq, Repr

/-! ## Restore (chapter 9) -/

/-- Restore states (R154). -/
inductive RestoreState
  | queued | claiming | loading | searching | delivering | seeking | switching
  deriving DecidableEq, Repr

/-- A DATA_IN frame (11.1). -/
structure DataIn where
  chan : Chan
  eor : Bool
  damaged : Bool
  payload : List Byte
  deriving DecidableEq, Repr

/-- A frame still to go out of a restore, with the record its end completes, if any, and the record it leaves in delivery. -/
structure OutData where
  frame : DataIn
  ended : Option Nat
  within : Option Nat
  deriving DecidableEq, Repr

/-- A restore context (R154). After `damaged`: the block in hand, the frames of it still to send (R162), the record and reason of the damage being sought
past (R163), whether its oldest frame has been handed to the link transmitter, the extent being read, the last block judged (R163), whether the restore was queued before it claimed (R158), and the
fault kind of its last CODING_FAULT (R97). -/
structure RestoreCtx where
  id : Nat
  requester : Link
  set : Nat
  first : Nat
  last : Nat
  skip : Bool
  state : RestoreState
  chan : Option Chan
  displaced : Option Nat
  expected : Nat
  nextRec : Nat
  inDelivery : Option Nat
  runRec : Option Nat
  credits : Nat
  stall : Bool
  delivered : Nat
  damaged : Nat
  startOff : Nat
  frames : List OutData
  damage : Option (Nat × Code)
  sending : Bool
  extent : Nat
  judged : Option Nat
  wasQueued : Bool
  lastFault : Option CodingFault
  deriving DecidableEq, Repr

/-- The Restore Unit: the restore queue, the restores that hold or claim a channel, and the id counter. -/
structure RestoreUnit where
  queue : List RestoreCtx
  running : List RestoreCtx
  nextId : Nat
  deriving DecidableEq, Repr

/-! ## Store and recovery (chapter 10) -/

inductive StoreState
  | clean | dirty | saving | failed | lost
  deriving DecidableEq, Repr

/-- The flash operation outstanding, whose 2 s timer runs exactly while it is outstanding (R168). -/
inductive FlashOp
  | none | erase | program | commit | read
  deriving DecidableEq, Repr

/-- What the image holds (R167). -/
structure Image where
  protect : Protect
  watches : PerWatch Watch
  interval : Nat
  acclimation : Nat
  policies : PerLink Policy
  auto : Bool
  dicts : Dicts
  catalog : Catalog
  deriving DecidableEq, Repr

/-- Progress of a RELOAD between its ACCEPTED answer and its end (R171): the sessions it has aborted are ending, it waits for a checkpoint, it reads the image; `again`, where the read
image waits for sessions begun meanwhile to end (R79). -/
inductive ReloadState
  | none | ending | waiting | reading | again
  deriving DecidableEq, Repr

/-- A data header noted by a recovery scan (R173). -/
structure Note where
  set : Nat
  block : Nat
  record : Nat
  cont : Bool
  deriving DecidableEq, Repr

/-- The running recovery (R172, R173): `gen` is the volume block's generation; `pos` the position read next; the sums run over every block read, and the `kept` sums
over those below the end-of-data found so far. -/
structure Recovery where
  label : Label
  requester : Requester
  chan : Chan
  gen : Nat
  pos : Nat
  notes : List Note
  sets : List SetRec
  leftOut : List Nat
  frames : Nat
  native : Nat
  coded : Nat
  eod : Nat
  keptFrames : Nat
  keptNative : Nat
  keptCoded : Nat
  deriving DecidableEq, Repr

/-- The Store Controller. `flash` is the good committed image in the attached flash, if it holds one. `served` are the requesters of the running checkpoint
and `nextServed` those of the pending one (R168, R169). -/
structure Store where
  state : StoreState
  pending : Bool
  changed : Bool
  snapshot : Option Image
  op : FlashOp
  served : List Requester
  nextServed : List Requester
  auto : Bool
  flash : Option Image
  reload : ReloadState
  recovery : Option Recovery
  deriving DecidableEq, Repr

/-! ## Ports (chapter 11) -/

/-- What a RESET_DONE names (11.7). -/
inductive ResetCause
  | linkReset | offline | libraryReset | reload | powerUp
  deriving DecidableEq, Repr

inductive SetEnd
  | deleted | truncated
  deriving DecidableEq, Repr

inductive VerifyOutcome
  | passed | sampled | failed | incomplete
  deriving DecidableEq, Repr

inductive RestoreOutcome
  | complete | failed | cancelled
  deriving DecidableEq, Repr

/-- Outcome of a recovery (R172). -/
inductive RecoverOutcome
  | ok | failed | cancelled
  deriving DecidableEq, Repr

/-- The notices (11.7), with the fields their chapters list. -/
inductive Notice
  | quiesceAsk (m : Mag)
  | door (m : Mag) (st : DoorState) (cause : Code)
  | duplicateLabel (l : Label) (e : Element)
  | noSlot (l : Option Label) (e : Element)
  | mailSlot (dir : MailDir) (outcome : Code) (l : Option Label)
  | moveDone (id : Nat)
  | moveFailed (id : Nat) (reason : Code)
  | pickerFaulted (reason : Code)
  | pickerIdle
  | climate (w : WatchId) (q : Quantity) (reading : Int)
  | sensorFault (count : Nat)
  | hold (on : Bool) (cause : HoldCause)
  | earlyWarning (set : Nat) (l : Label)
  | transport (c : Chan) (st : TransportState)
  | sessionReady (set : Nat) (c : Chan) (l : Label)
  | needCartridge (set : Nat)
  | syncDone (set blocks : Nat)
  | setClosed (set blocks records native coded : Nat)
  | sessionEnded (set : Nat) (how : SetEnd) (reason : Code) (records : Nat)
  | sessionSuspending (set : Nat)
  | sessionSuspended (set : Nat)
  | sessionResumed (set : Nat)
  | verifyDone (set : Nat) (outcome : VerifyOutcome) (passes bad : Nat) (reason : Option Code)
  | restoreStarted (id set : Nat) (c : Chan)
  | restoreDamage (id first last : Nat) (reason : Code)
  | restoreDone (id set : Nat) (outcome : RestoreOutcome) (delivered damaged : Nat) (reason : Option Code) (firstLeft : Option Nat)
  | checkpointDone (ok : Bool)
  | checkpointFailed
  | store (st : StoreState)
  | reloadDone (loaded : Bool)
  | recoverDone (l : Label) (outcome : RecoverOutcome) (rebuilt leftOut : Nat) (reason : Option Code)
  | recoverConflict (l : Label) (set : Nat)
  | resetDone (cause : ResetCause)
  deriving DecidableEq, Repr

/-- Cartridge classes (R3). -/
inductive CartClass
  | s | l | unsupported
  deriving DecidableEq, Repr

/-- The answer of READ_INVENTORY (R10). -/
structure InventoryAnswer where
  element : Element
  contents : ElementRec
  cls : Option CartClass
  catalogued : Bool
  door : Option DoorState
  mail : MailState
  key : Key
  protect : Protect
  isProtected : Bool
  deriving DecidableEq, Repr

/-- An order's state as READ_QUEUE shows it (2.3). -/
inductive ShownState
  | waiting | deferred | ejectWait | running
  deriving DecidableEq, Repr

/-- One order as READ_QUEUE shows it (R42). -/
structure ShownOrder where
  id : Nat
  requester : Option Requester
  internal : Bool
  kind : OrderKind
  source : OrderSource
  dest : OrderDest
  state : ShownState
  retry : Nat
  deriving DecidableEq, Repr

/-- The answer of READ_QUEUE (R42). -/
structure QueueAnswer where
  state : PickerState
  cmd : Option MotionCmd
  fault : Option Code
  gripper : Occupancy
  gripperLabel : Option Label
  orders : List ShownOrder
  held : Nat
  deriving DecidableEq, Repr

/-- The answer of READ_CLIMATE (R53). -/
structure ClimateAnswer where
  temperature : Option Reading
  humidity : Option Reading
  watches : PerWatch Watch
  results : PerWatch WatchResult
  sampling : Sampling
  next : WatchId
  interval : Nat
  failures : Nat
  failSafe : Bool
  hold : Bool
  acclimation : Nat
  deriving DecidableEq, Repr

/-- The answer of READ_SET SUMMARY (R76). -/
structure SummaryAnswer where
  id : Nat
  owner : Link
  state : SetState
  writtenDay : Nat
  retention : Nat
  dict : Nat
  dictGen : Nat
  extents : List Extent
  blocks : Nat
  records : Nat
  native : Nat
  coded : Nat
  ratio : Nat
  indexPoints : Nat
  interval : Nat
  verify : VerifyStatus
  passes : Nat
  bad : Nat
  badList : List Nat
  badMore : Bool
  deriving DecidableEq, Repr

/-- The working results READ_VERIFY shows for the RUNNING entry (R152). -/
structure ShownWorking where
  bad : Nat
  badList : List Nat
  more : Bool
  runRec : Option Nat
  expected : Nat
  extent : Nat
  fault : Option CodingFault
  deriving DecidableEq, Repr

/-- A verify entry as READ_VERIFY shows it (R152); the working results are shown for the RUNNING entry. -/
structure ShownVerify where
  set : Nat
  origin : VerifyOrigin
  requestedBy : Option Requester
  mode : VerifyMode
  pattern : Pattern
  passes : Nat
  passesLeft : Nat
  state : VerifyState
  resume : Option Nat
  working : Option ShownWorking
  deriving DecidableEq, Repr

/-- Results a response carries. `stored` is the retention that SET_RETENTION stored (R71), `setting` the interval or acclimation that a climate setting stored (R48, R54). -/
inductive Result
  | none
  | orderId (n : Nat)
  | setId (n : Nat)
  | restoreId (n : Nat)
  | threshold (t : Int)
  | stored (n : Nat)
  | setting (n : Nat)
  | inventory (a : InventoryAnswer)
  | queue (a : QueueAnswer)
  | climate (a : ClimateAnswer)
  | cartridge (c : Cart) (cls : CartClass) (ratio estimate : Nat)
  | setSummary (a : SummaryAnswer)
  | setIndex (points : List IndexPoint) (total : Nat)
  | setIds (ids : List Nat) (more : Bool)
  | generation (g : Nat)
  | dictionary (g : Nat) (count : Nat) (bytes : List Byte) (referenced : Bool)
  | policy (p : Policy)
  | verify (policies : PerLink Policy) (skips : PerLink Nat) (entries : List ShownVerify)
  | store (st : StoreState) (pending auto : Bool) (recovery : Option Label)
  deriving DecidableEq, Repr

/-- A RESPONSE: the request's tag, the outcome code and the results (11.1). `atPort` marks a QUEUE_FULL that the port itself has answered at once (R176). -/
structure Response where
  tag : Nat
  code : Code
  result : Result
  atPort : Bool := false
  deriving DecidableEq, Repr

/-- A queued REQUEST: its tag, code and argument bytes (11.1). -/
structure QueuedReq where
  tag : Nat
  code : Nat
  args : List Byte
  deriving DecidableEq, Repr

/-- A frame a link transmitter is sending (R177). -/
inductive TxFrame
  | credit (c : Chan) (n : Nat)
  | response (r : Response)
  | notice (n : Notice) (overflow : Bool)
  | data (d : DataIn)
  deriving DecidableEq, Repr

/-- A link port (R175 to R178). `offlineTimer` runs for 30 s after lock is lost; `creditFrames` are CREDIT frames not yet sent; `data` are the DATA_IN frames
ready on each channel; `lastData` is the channel that sent the last DATA_IN; `cut` is a DATA_IN frame whose sending the loss of lock cut off (R178). -/
structure LinkPort where
  online : Bool
  offlineTimer : Bool
  requests : List QueuedReq
  responses : List Response
  notices : List Notice
  overflow : Bool
  creditFrames : List (Chan × Nat)
  data : PerChan (Option DataIn)
  lastData : Chan
  cut : Option DataIn
  tx : Option TxFrame
  deriving DecidableEq, Repr

/-- What a panel read transaction returns (R180). -/
inductive PanelFrame
  | response (r : Response)
  | notice (n : Notice) (overflow : Bool)
  | emptyNotice
  deriving DecidableEq, Repr

/-- The panel port (R180). `lastRead` is the frame the last read transaction returned. -/
structure PanelPort where
  requests : List QueuedReq
  responses : List Response
  refusal : Option Response
  notices : List Notice
  overflow : Bool
  lastRead : Option PanelFrame
  deriving DecidableEq, Repr

/-! ## The whole -/

/-- The controller: everything a command acts on. -/
structure Ctl where
  inv : Inventory
  picker : Picker
  climate : Climate
  cat : Catalog
  dicts : Dicts
  chans : PerChan Channel
  trans : PerChan Transport
  verify : VerifyUnit
  restore : RestoreUnit
  store : Store
  links : PerLink LinkPort
  panel : PanelPort
  deriving DecidableEq, Repr

/-- The machine: the controller, and the commands that are waiting, first in, first out. -/
structure State where
  ctl : Ctl
  pending : List Instr
  deriving DecidableEq, Repr

/-- Reasons a command could stop the machine with a fault: there are none. Every failure the manual describes is a report with its effect on State. -/
inductive Fault
  deriving DecidableEq, Repr

/-- Reasons a command is refused. -/
inductive Refusal
  /-- Raised by `exec`'s own arm for a row that has no meaning yet, never by a meaning; safe: the model stops. -/
  | notModelled (mnemonic : String)
  deriving DecidableEq, Repr

/-! ## Values after reset -/

/-- Element records at power-up: UNCERTAIN, no entry, no reservation (R24). -/
def ElementRec.initial : ElementRec := { occ := .uncertain, entry := none, reserved := none }

/-- Doors start LOCKED (R24). -/
def Door.initial : Door :=
  { state := .locked, requester := none, granted := ⟨false, false⟩, asked := ⟨false, false⟩, askTimer := false, openTimer := false }

/-- The mail slot starts LOCKED (R24). -/
def MailSlot.initial : MailSlot :=
  { state := .locked, requester := none, dest := none, reservedSlot := none, label := none, timer := false, switchOpen := false, forced := false }

/-- The protect code of a LOST store (R170): all 24 slots protected. -/
def Protect.protective : Protect := { dir := .bottom, idx := 8 }

/-- The default watches (R57). -/
def Watch.defaultW1 : Watch := { enabled := true, quantity := .temperature, threshold := 80, direction := .above, action := .hold }
def Watch.defaultW2 : Watch := { enabled := true, quantity := .humidity, threshold := 80, direction := .above, action := .hold }
def WatchResult.initial : WatchResult := { valid := false, crossed := false }

/-- The default policy (R140). -/
def Policy.default : Policy :=
  { trigger := .onClose, skip := 1, passes := 1, mode := .quick, pattern := .everyNth 16, overlap := .queue }

def Catalog.empty : Catalog := { carts := [], sets := [], nextSetId := 1 }
def DictSlot.empty : DictSlot := { bytes := [], generation := 0 }
def Dicts.empty : Dicts := { s1 := .empty, s2 := .empty, s3 := .empty }
def Bank.empty : Bank := { state := .empty, bytes := [], ends := [], stamp := none }

/-- Channels at power-up: IDLE, banks EMPTY, coded buffer free, coder and expander IDLE, no credit (R101, R120). -/
def Channel.initial : Channel :=
  { mode := .idle, bank0 := .empty, bank1 := .empty, buf := .free, coder := .idle, expander := .idle, credits := 0, session := none,
    claim := none, drain := none }

/-- A transport that reports no cartridge (R138). -/
def Transport.initial : Transport :=
  { state := .empty, pos := 0, order := none, rejected := none, pendingEject := false, present := false, tabSeen := none, resetting := false }

/-- The SCAN_ALL order of power-up: the first order of the queue, with id 1 (R23, R43). -/
def Order.powerUpScan : Order :=
  { id := 1, requester := none, internal := true, raisedBy := some .inventory, kind := .scanAll, source := .none, dest := .none, purpose := .none,
    wanted := none, state := .ready, retry := 0, role := .powerUpScan, unloadAfter := false }

/-- The picker at power-up: HOMING with HOME sent, SCAN_ALL in the queue (R43). -/
def Picker.initial : Picker :=
  { state := .homing, lastFault := none, cmd := some .home, phase := .homing, queue := [Order.powerUpScan], held := [], auditOffers := [], nextId := 2,
    failed := none, carried := none, homeRetry := 0, passed := [] }

/-- The image's contents a LOST store is replaced by (R170). -/
def Image.defaults : Image :=
  { protect := .protective, watches := ⟨.defaultW1, .defaultW2⟩, interval := 10, acclimation := 60, policies := ⟨.default, .default⟩, auto := true,
    dicts := .empty, catalog := .empty }

/-- The Climate Monitor at power-up with the defaults (R57): sampling restarted with W1 first. -/
def Climate.initial : Climate :=
  { watches := ⟨.defaultW1, .defaultW2⟩, results := ⟨.initial, .initial⟩, interval := 10, sampling := .running, next := .w1, reading := none, failures := 0,
    failSafe := false, hold := false, lastTemperature := none, lastHumidity := none, acclimation := 60, minuteTimer := true }

/-- A link port at power-up with the store LOST (R183): OFFLINE, RESET_DONE(POWER_UP) and STORE(LOST) in its notice queue. -/
def LinkPort.initial : LinkPort :=
  { online := false, offlineTimer := false, requests := [], responses := [], notices := [.resetDone .powerUp, .store .lost], overflow := false,
    creditFrames := [], data := ⟨none, none⟩, lastData := .c1, cut := none, tx := none }

/-- The panel port at power-up with the store LOST (R183). -/
def PanelPort.initial : PanelPort :=
  { requests := [], responses := [], refusal := none, notices := [.resetDone .powerUp, .store .lost], overflow := false, lastRead := none }

/-- The controller after power-up with a flash that holds no good image, all doors and the mail slot closed, no cartridge in a transport and the key in LOCK. -/
def Ctl.reset : Ctl :=
  { inv := { elements := Vector.replicate 28 ElementRec.initial, protect := .protective, doors := ⟨.initial, .initial⟩, mail := .initial, key := .lock }
    picker := .initial
    climate := .initial
    cat := .empty
    dicts := .empty
    chans := ⟨.initial, .initial⟩
    trans := ⟨.initial, .initial⟩
    verify := { queue := [], policies := ⟨.default, .default⟩, skips := ⟨0, 0⟩ }
    restore := { queue := [], running := [], nextId := 1 }
    store := { state := .lost, pending := false, changed := false, snapshot := none, op := .none, served := [], nextServed := [], auto := true,
               flash := none, reload := .none, recovery := none }
    links := ⟨.initial, .initial⟩
    panel := .initial }

/-- The machine right after reset: the controller as power-up leaves it, and no command waiting. -/
def State.reset : State := { ctl := .reset, pending := [] }

/-- A command's effect on the controller; the waiting commands stay as they are. -/
def State.run (s : State) (f : Ctl → Ctl) : Host.Outcome State Fault Refusal := .next { s with ctl := f s.ctl }

end Sys2Proof.Machine
end

