-- ==== Sys2Proof/Machine/Bytes.lean ====
section
/-! DEFINITION. Bytes: numbers high byte first, label padding, element ids, and the 32-bit check of R98. -/

namespace Sys2Proof.Machine

/-- `v` as `n` bytes, high byte first (00_scope, Byte order). -/
def beBytes : Nat → Nat → List Byte
  | 0, _ => []
  | n + 1, v => BitVec.ofNat 8 (v / 256 ^ n) :: beBytes n v

/-- The number a run of bytes holds, high byte first. -/
def beNat (bs : List Byte) : Nat := bs.foldl (fun acc b => acc * 256 + b.toNat) 0

/-- A label in 8 bytes, padded at its end with spaces (11.1). -/
def padLabel (l : Label) : List Byte := l ++ List.replicate (8 - l.length) 0x20#8

/-- A label without the spaces at its end. -/
def trimLabel (bs : List Byte) : Label := (bs.reverse.dropWhile (· == 0x20#8)).reverse

/-- One shift of the check register (R98, step 3). -/
def crcShift (r : BitVec 32) : BitVec 32 :=
  if r.getLsbD 0 then (r >>> 1) ^^^ 0xEDB88320#32 else r >>> 1

/-- One byte taken into the check register (R98, steps 2 and 3). -/
def crcByte (r : BitVec 32) (b : Byte) : BitVec 32 :=
  crcShift (crcShift (crcShift (crcShift (crcShift (crcShift (crcShift (crcShift (r ^^^ b.setWidth 32))))))))

/-- The check value of a run of bytes (R98). -/
def crc (bs : List Byte) : BitVec 32 := ~~~ (bs.foldl crcByte (BitVec.allOnes 32))

end Sys2Proof.Machine

namespace Sys2Proof

/-- Element ids (11.1): S01 to S24 as 1 to 24, then M 25, T0 26, T1 27 and P 28. -/
def Element.id : Element → Nat
  | .slot i => i.val + 1
  | .mail => 25
  | .transport .c0 => 26
  | .transport .c1 => 27
  | .gripper => 28

/-- The element an id names, if it names one. -/
def Element.ofId (n : Nat) : Option Element :=
  if h : 1 ≤ n ∧ n ≤ 24 then some (.slot ⟨n - 1, by omega⟩)
  else if n = 25 then some .mail
  else if n = 26 then some (.transport .c0)
  else if n = 27 then some (.transport .c1)
  else if n = 28 then some .gripper
  else none

/-- The place of an element's record in the Inventory Table. The manual counts 27 elements and names 28 (24 slots, M, T0, T1, P); all it names are held. -/
def Element.ix : Element → Fin 28
  | .slot i => ⟨i.val, by omega⟩
  | .mail => 24
  | .transport .c0 => 25
  | .transport .c1 => 26
  | .gripper => 27

end Sys2Proof
end

