-- ==== Sys2Proof/Machine/Frames.lean ====
section
/-! DEFINITION. Frames (11.1): a request's code and argument bytes, who may send it, and the judgement of a frame as it arrives (R175). -/

namespace Sys2Proof.Machine

/-! ## Arguments -/

/-- A number in two bytes, and in one. -/
def wordOf (n : Nat) : List Byte := beBytes 2 n
def byteOf (n : Nat) : List Byte := [BitVec.ofNat 8 n]

def args0 (r : Req) : List Byte → Option Req
  | [] => some r
  | _ => none

def args1 (f : Nat → Req) : List Byte → Option Req
  | [a] => some (f a.toNat)
  | _ => none

def args2 (f : Nat → Nat → Req) : List Byte → Option Req
  | [a, b] => some (f a.toNat b.toNat)
  | _ => none

def argsWord (f : Nat → Req) : List Byte → Option Req
  | [a, b] => some (f (beNat [a, b]))
  | _ => none

def argsWords (f : Nat → Nat → Req) : List Byte → Option Req
  | [a, b, c, d] => some (f (beNat [a, b]) (beNat [c, d]))
  | _ => none

def argsLabel (f : Label → Req) (bs : List Byte) : Option Req :=
  if bs.length = 8 then some (f (trimLabel bs)) else none

/-- IMPORT: one byte, 0 for ANY, otherwise an element id. -/
def argsImport : List Byte → Option Req
  | [a] => some (.importCart (if a.toNat = 0 then .any else .element a.toNat))
  | _ => none

/-- UNLOAD: the transport, then one byte, 0 for HOME, otherwise an element id. -/
def argsUnload : List Byte → Option Req
  | [a, b] => some (.unload a.toNat (if b.toNat = 0 then .home else .element b.toNat))
  | _ => none

/-- A signed 16-bit number. -/
def signed16 (n : Nat) : Int := if n < 32768 then n else (n : Int) - 65536

/-- SET_WATCH: watch, enabled, quantity, threshold (two bytes, signed), direction, action. -/
def argsWatch : List Byte → Option Req
  | [w, en, q, t1, t0, d, a] => some (.setWatch w.toNat en.toNat q.toNat (signed16 (beNat [t1, t0])) d.toNat a.toNat)
  | _ => none

/-- READ_SET: set, then the part's kind: 0 SUMMARY, 1 INDEX with its first entry. DESIGN CHOICE (log 4): nothing follows a kind outside this list. -/
def argsReadSet : List Byte → Option Req
  | [a, b, k] => if k.toNat = 0 then some (.readSet (beNat [a, b]) .summary) else if k.toNat = 1 then none else some (.readSet (beNat [a, b]) (.other k.toNat))
  | [a, b, k, f] => if k.toNat = 1 then some (.readSet (beNat [a, b]) (.index f.toNat)) else none
  | _ => none

/-- LIST_SETS: the filter's kind (0 ALL, 1 OWNER with the link, 2 CARTRIDGE with the label), then the start id in four bytes. DESIGN CHOICE (log 4): the
start id alone follows a kind outside this list. -/
def argsListSets : List Byte → Option Req
  | k :: rest =>
    if k.toNat = 1 then
      match rest with
      | [l, a, b, c, d] => some (.listSets (.owner l.toNat) (beNat [a, b, c, d]))
      | _ => none
    else if k.toNat = 2 then
      if rest.length = 12 then some (.listSets (.cartridge (trimLabel (rest.take 8))) (beNat (rest.drop 8))) else none
    else if rest.length = 4 then some (.listSets (if k.toNat = 0 then .all else .other k.toNat) (beNat rest))
    else none
  | _ => none

/-- WRITE_DICTIONARY: the slot, then its bytes to the end of the body. -/
def argsDictionary : List Byte → Option Req
  | s :: bs => some (.writeDictionary s.toNat bs)
  | _ => none

/-- The arguments of OPEN_SET after its target: size hint (4), dictionary slot, retention days (2), today (2), yield flag. -/
def argsOpenTail (ch : Nat) (t : TargetArg) : List Byte → Option Req
  | [h3, h2, h1, h0, d, r1, r0, t1, t0, y] =>
    some (.openSet ch t (beNat [h3, h2, h1, h0]) d.toNat (beNat [r1, r0]) (beNat [t1, t0]) y.toNat)
  | _ => none

/-- OPEN_SET: channel (0, 1, or 2 for ANY), the target's kind (0 a label, which follows; 1 POOL), then the rest. DESIGN CHOICE (log 4): no label follows a kind outside this list. -/
def argsOpenSet : List Byte → Option Req
  | ch :: k :: rest =>
    if k.toNat = 0 then
      if 8 ≤ rest.length then argsOpenTail ch.toNat (.label (trimLabel (rest.take 8))) (rest.drop 8) else none
    else argsOpenTail ch.toNat (if k.toNat = 1 then .pool else .other k.toNat) rest
  | _ => none

/-- SET_VERIFY_POLICY: trigger, skip, passes, mode, the pattern's kind (0 ALL, 1 EVERY_NTH with N, 2 RUN with K and T), overlap. DESIGN CHOICE (log 4): no
number follows a kind outside this list. -/
def argsPolicy : List Byte → Option Req
  | [t, s, p, m, k, o] =>
    if k.toNat = 1 ∨ k.toNat = 2 then none
    else some (.setVerifyPolicy t.toNat s.toNat p.toNat m.toNat (if k.toNat = 0 then .all else .other k.toNat) o.toNat)
  | [t, s, p, m, k, n, o] => if k.toNat = 1 then some (.setVerifyPolicy t.toNat s.toNat p.toNat m.toNat (.everyNth n.toNat) o.toNat) else none
  | [t, s, p, m, k, x, y, o] => if k.toNat = 2 then some (.setVerifyPolicy t.toNat s.toNat p.toNat m.toNat (.run x.toNat y.toNat) o.toNat) else none
  | _ => none

/-- RESTORE: set, first record (4), the count's kind (0 a number in four bytes, 1 ALL), damage rule. DESIGN CHOICE (log 4): no number follows a kind outside this list. -/
def argsRestore : List Byte → Option Req
  | [a, b, f3, f2, f1, f0, k, d] =>
    if k.toNat = 0 then none
    else some (.restore (beNat [a, b]) (beNat [f3, f2, f1, f0]) (if k.toNat = 1 then .all else .other k.toNat) d.toNat)
  | [a, b, f3, f2, f1, f0, k, n3, n2, n1, n0, d] =>
    if k.toNat = 0 then some (.restore (beNat [a, b]) (beNat [f3, f2, f1, f0]) (.count (beNat [n3, n2, n1, n0])) d.toNat) else none
  | _ => none

end Sys2Proof.Machine

namespace Sys2Proof

open Machine

/-- A request read from its code and argument bytes (R176): `none` for a code outside the table, and for arguments shorter or longer than the request
needs. -/
def Req.decode (code : Nat) (args : List Byte) : Option Req :=
  match code with
  | 1 => args1 .readInventory args
  | 2 => args1 .reserve args
  | 3 => args1 .release args
  | 4 => args2 .setProtect args
  | 5 => args1 .openDoor args
  | 6 => args1 .grantQuiesce args
  | 7 => args1 .withdrawQuiesce args
  | 8 => argsImport args
  | 9 => argsLabel .exportCart args
  | 10 => args2 .move args
  | 11 => args2 .load args
  | 12 => argsUnload args
  | 13 => args1 .cancelMove args
  | 14 => args0 .resumePicker args
  | 15 => args0 .readQueue args
  | 16 => argsWatch args
  | 17 => args1 .setClimateInterval args
  | 18 => args1 .setAcclimation args
  | 19 => argsLabel .clearAcclimation args
  | 20 => args0 .readClimate args
  | 21 => argsLabel .readCartridge args
  | 22 => argsReadSet args
  | 23 => argsListSets args
  | 24 => argsWords .expireSet args
  | 25 => argsWords .setRetention args
  | 26 => argsLabel .reclaim args
  | 27 => argsLabel .forgetCartridge args
  | 28 => argsDictionary args
  | 29 => args1 .readDictionary args
  | 30 => argsOpenSet args
  | 31 => argsWord .sync args
  | 32 => argsWord .closeSet args
  | 33 => argsWord .abortSet args
  | 34 => argsWord .verifySet args
  | 35 => argsWord .cancelVerify args
  | 36 => argsPolicy args
  | 37 => args0 .readVerify args
  | 38 => argsRestore args
  | 39 => args1 .cancelRestore args
  | 40 => args0 .checkpoint args
  | 41 => args1 .setAutoCheckpoint args
  | 42 => args0 .readStore args
  | 43 => args0 .reload args
  | 44 => argsLabel .recoverCartridge args
  | 45 => args1 .linkReset args
  | 46 => args0 .libraryReset args
  | _ => none

/-! ## The other way: a request's code and arguments -/

/-- A request's code (R176's table). -/
def Req.code : Req → Nat
  | .readInventory _ => 1
  | .reserve _ => 2
  | .release _ => 3
  | .setProtect _ _ => 4
  | .openDoor _ => 5
  | .grantQuiesce _ => 6
  | .withdrawQuiesce _ => 7
  | .importCart _ => 8
  | .exportCart _ => 9
  | .move _ _ => 10
  | .load _ _ => 11
  | .unload _ _ => 12
  | .cancelMove _ => 13
  | .resumePicker => 14
  | .readQueue => 15
  | .setWatch _ _ _ _ _ _ => 16
  | .setClimateInterval _ => 17
  | .setAcclimation _ => 18
  | .clearAcclimation _ => 19
  | .readClimate => 20
  | .readCartridge _ => 21
  | .readSet _ _ => 22
  | .listSets _ _ => 23
  | .expireSet _ _ => 24
  | .setRetention _ _ => 25
  | .reclaim _ => 26
  | .forgetCartridge _ => 27
  | .writeDictionary _ _ => 28
  | .readDictionary _ => 29
  | .openSet _ _ _ _ _ _ _ => 30
  | .sync _ => 31
  | .closeSet _ => 32
  | .abortSet _ => 33
  | .verifySet _ => 34
  | .cancelVerify _ => 35
  | .setVerifyPolicy _ _ _ _ _ _ => 36
  | .readVerify => 37
  | .restore _ _ _ _ => 38
  | .cancelRestore _ => 39
  | .checkpoint => 40
  | .setAutoCheckpoint _ => 41
  | .readStore => 42
  | .reload => 43
  | .recoverCartridge _ => 44
  | .linkReset _ => 45
  | .libraryReset => 46

/-- A request's argument bytes, in the order the manual lists the arguments (11.1). -/
def Req.args : Req → List Byte
  | .readInventory e | .reserve e | .release e => byteOf e
  | .setProtect d i => byteOf d ++ byteOf i
  | .openDoor m | .grantQuiesce m | .withdrawQuiesce m => byteOf m
  | .importCart .any => byteOf 0
  | .importCart (.element e) => byteOf e
  | .exportCart l => padLabel l
  | .move a b | .load a b => byteOf a ++ byteOf b
  | .unload a .home => byteOf a ++ byteOf 0
  | .unload a (.element e) => byteOf a ++ byteOf e
  | .cancelMove i => byteOf i
  | .resumePicker | .readQueue | .readClimate | .readVerify | .checkpoint | .readStore | .reload | .libraryReset => []
  | .setWatch w en q t d a => byteOf w ++ byteOf en ++ byteOf q ++ wordOf (if t < 0 then (t + 65536).toNat else t.toNat) ++ byteOf d ++ byteOf a
  | .setClimateInterval n | .setAcclimation n => byteOf n
  | .clearAcclimation l | .readCartridge l | .reclaim l | .forgetCartridge l | .recoverCartridge l => padLabel l
  | .readSet s .summary => wordOf s ++ byteOf 0
  | .readSet s (.index f) => wordOf s ++ byteOf 1 ++ byteOf f
  | .readSet s (.other k) => wordOf s ++ byteOf k
  | .listSets .all n => byteOf 0 ++ beBytes 4 n
  | .listSets (.owner l) n => byteOf 1 ++ byteOf l ++ beBytes 4 n
  | .listSets (.cartridge l) n => byteOf 2 ++ padLabel l ++ beBytes 4 n
  | .listSets (.other k) n => byteOf k ++ beBytes 4 n
  | .expireSet s t | .setRetention s t => wordOf s ++ wordOf t
  | .writeDictionary s bs => byteOf s ++ bs
  | .readDictionary s => byteOf s
  | .openSet ch t h d r day y =>
    byteOf ch ++ (match t with
      | .label l => byteOf 0 ++ padLabel l
      | .pool => byteOf 1
      | .other k => byteOf k) ++ beBytes 4 h ++ byteOf d ++ wordOf r ++ wordOf day ++ byteOf y
  | .sync s | .closeSet s | .abortSet s | .verifySet s | .cancelVerify s => wordOf s
  | .setVerifyPolicy t s p m pat o =>
    byteOf t ++ byteOf s ++ byteOf p ++ byteOf m ++ (match pat with
      | .all => byteOf 0
      | .everyNth n => byteOf 1 ++ byteOf n
      | .run k t => byteOf 2 ++ byteOf k ++ byteOf t
      | .other k => byteOf k) ++ byteOf o
  | .restore s f c d =>
    wordOf s ++ beBytes 4 f ++ (match c with
      | .count n => byteOf 0 ++ beBytes 4 n
      | .all => byteOf 1
      | .other k => byteOf k) ++ byteOf d
  | .cancelRestore i => byteOf i
  | .setAutoCheckpoint v => byteOf v
  | .linkReset l => byteOf l

/-! ## Who may send a request (R181) -/

/-- The requests the panel may send. -/
def Req.fromPanel : Req → Bool
  | .readInventory _ | .readQueue | .readClimate | .readCartridge _ | .readSet _ _ | .listSets _ _ | .readDictionary _ | .readVerify
  | .readStore | .openDoor _ | .importCart _ | .exportCart _ | .move _ _ | .resumePicker | .setProtect _ _ | .setWatch _ _ _ _ _ _
  | .setClimateInterval _ | .setAcclimation _ | .clearAcclimation _ | .verifySet _ | .expireSet _ _ | .setRetention _ _ | .reclaim _
  | .forgetCartridge _ | .recoverCartridge _ | .checkpoint | .reload | .libraryReset => true
  | _ => false

/-- A link may send every request but these four. -/
def Req.fromLink : Req → Bool
  | .clearAcclimation _ | .forgetCartridge _ | .reload | .libraryReset => false
  | _ => true

def Req.permitted (r : Req) : Requester → Bool
  | .link _ => r.fromLink
  | .panel => r.fromPanel

end Sys2Proof

namespace Sys2Proof.Machine

/-! ## Frames as they arrive (R175) -/

/-- What an arriving frame is, once judged. `other` is a frame that is discarded without effect. -/
inductive Arrival
  | damaged
  | request (tag code : Nat) (args : List Byte)
  | dataOut (ch flags : Nat) (payload : List Byte)
  | credit (ch count : Nat)
  | other
  deriving DecidableEq, Repr

/-- The bytes of a frame: kind, body length, body, and the check over all three (11.1). -/
def frameBytes (kind : Nat) (body : List Byte) : List Byte :=
  let head := byteOf kind ++ wordOf body.length ++ body
  head ++ beBytes 4 (crc head).toNat

/-- The body of a frame that is not damaged, by its kind (R175). DESIGN CHOICE (log 91): a CREDIT frame whose body is longer than its 2 bytes is discarded without effect. -/
def judgeBody (kind : Nat) (body : List Byte) : Arrival :=
  match kind, body with
  | 1, tag :: code :: args => .request tag.toNat code.toNat args
  | 1, _ => .damaged
  | 4, ch :: flags :: payload => if 1 ≤ payload.length ∧ payload.length ≤ Config.frameBytes then .dataOut ch.toNat flags.toNat payload else .damaged
  | 4, _ => .damaged
  | 6, [ch, n] => .credit ch.toNat n.toNat
  | _, _ => .other

/-- A frame judged when its last byte has arrived (R175): damaged when its check is not good, its length field lies outside 2 to 4,160 or does not fit the bytes,
or its kind is not 1 to 6. -/
def judgeFrame (bs : List Byte) : Arrival :=
  match bs with
  | k :: l1 :: l0 :: rest =>
    let len := beNat [l1, l0]
    if 2 ≤ len ∧ len ≤ 4160 ∧ rest.length = len + 4 ∧ 1 ≤ k.toNat ∧ k.toNat ≤ 6
        ∧ beNat (rest.drop len) = (crc (k :: l1 :: l0 :: rest.take len)).toNat then
      judgeBody k.toNat (rest.take len)
    else .damaged
  | _ => .damaged

/-! ## Code numbers (11.7) -/

def Code.num : Code → Nat
  | .ok => 0 | .accepted => 1 | .queueFull => 2 | .badRequest => 3 | .badArgument => 4 | .notPermitted => 5 | .keyLocked => 6
  | .reserved => 7 | .notOwner => 8 | .isProtected => 9 | .tabProtected => 10 | .noCartridge => 11 | .elementFull => 12
  | .notFound => 13 | .wrongState => 14 | .inUse => 15 | .catalogFull => 16 | .doorBusy => 17 | .doorRefused => 18
  | .channelBusy => 19 | .busy => 20 | .retentionHeld => 21 | .dictionaryInUse => 22 | .dictionaryChanged => 23
  | .setExpired => 24 | .pickerFaulted => 25 | .mismatch => 26
  | .gripFault => 64 | .pathBlocked => 65 | .timeout => 66 | .readFault => 67 | .writeFault => 68 | .mediaFault => 69
  | .codingFault => 70 | .linkDamage => 71 | .overrun => 72 | .stalled => 73 | .cancelled => 74 | .setTooLong => 75
  | .resumeFailed => 76 | .reset => 77

def Notice.code : Notice → Nat
  | .quiesceAsk _ => 1 | .door _ _ _ => 2 | .duplicateLabel _ _ => 3 | .noSlot _ _ => 4 | .mailSlot _ _ _ => 5 | .moveDone _ => 6
  | .moveFailed _ _ => 7 | .pickerFaulted _ => 8 | .pickerIdle => 8 | .climate _ _ _ => 9 | .sensorFault _ => 10 | .hold _ _ => 11
  | .earlyWarning _ _ => 12 | .transport _ _ => 13 | .sessionReady _ _ _ => 14 | .needCartridge _ => 15 | .syncDone _ _ => 16
  | .setClosed _ _ _ _ _ => 17 | .sessionEnded _ _ _ _ => 18 | .sessionSuspending _ => 19 | .sessionSuspended _ => 20
  | .sessionResumed _ => 21 | .verifyDone _ _ _ _ _ => 22 | .restoreStarted _ _ _ => 23 | .restoreDamage _ _ _ _ => 24
  | .restoreDone _ _ _ _ _ _ _ => 25 | .checkpointDone _ => 26 | .checkpointFailed => 27 | .store _ => 28 | .reloadDone _ => 29
  | .recoverDone _ _ _ _ _ => 30 | .recoverConflict _ _ => 31 | .resetDone _ => 32

end Sys2Proof.Machine
end

