-- ==== Sys2Proof/Machine/Ops.lean ====
section
/-! DEFINITION. The named operations every block uses: reading and writing the parts of the controller, sending notices and responses, taking a head
request, and reporting a change to the Store Controller. -/

namespace Sys2Proof

/-- The magazine a slot lies in (1.1). -/
def Element.mag : Element → Option Mag
  | .slot i => some (if i.val < 12 then .l else .r)
  | _ => none

def Element.isSlot : Element → Bool
  | .slot _ => true
  | _ => false

/-- The other channel. -/
def Chan.other : Chan → Chan
  | .c0 => .c1
  | .c1 => .c0

def Chan.num : Chan → Nat
  | .c0 => 0
  | .c1 => 1

def Link.other : Link → Link
  | .a => .b
  | .b => .a

end Sys2Proof

namespace Sys2Proof.Machine

/-! ## Named values (11.1): each is sent as its position from 0 in the list where the manual first gives the values -/

/-- yes 0, no 1. -/
def yesOf (n : Nat) : Option Bool :=
  match n with
  | 0 => some true
  | 1 => some false
  | _ => none

/-- Link A 0, Link B 1. -/
def linkOf (n : Nat) : Option Link :=
  match n with
  | 0 => some .a
  | 1 => some .b
  | _ => none

/-- Magazine L 0, R 1. -/
def magOf (n : Nat) : Option Mag :=
  match n with
  | 0 => some .l
  | 1 => some .r
  | _ => none

/-- A number clamped to a range. -/
def clampNat (lo hi n : Nat) : Nat := max lo (min hi n)

/-! ## Parts of the controller -/

def Ctl.elem (s : Ctl) (e : Element) : ElementRec := s.inv.elements.get e.ix

def Ctl.setElem (s : Ctl) (e : Element) (r : ElementRec) : Ctl :=
  { s with inv := { s.inv with elements := s.inv.elements.set e.ix r } }

/-- The element's occupancy and entry become the ones given; its reservation stays (R5: a reservation belongs to the element). -/
def Ctl.fill (s : Ctl) (e : Element) (o : Occupancy) (en : Option Entry) : Ctl :=
  s.setElem e { s.elem e with occ := o, entry := en }

def Ctl.reserveFor (s : Ctl) (e : Element) (p : Option Requester) : Ctl :=
  s.setElem e { s.elem e with reserved := p }

def Ctl.chan (s : Ctl) (c : Chan) : Channel := s.chans.get c

def Ctl.setChan (s : Ctl) (c : Chan) (ch : Channel) : Ctl := { s with chans := s.chans.set c ch }

def Ctl.tr (s : Ctl) (c : Chan) : Transport := s.trans.get c

def Ctl.setTr (s : Ctl) (c : Chan) (t : Transport) : Ctl := { s with trans := s.trans.set c t }

def Ctl.link (s : Ctl) (l : Link) : LinkPort := s.links.get l

def Ctl.setLink (s : Ctl) (l : Link) (p : LinkPort) : Ctl := { s with links := s.links.set l p }

def Ctl.door (s : Ctl) (m : Mag) : Door := s.inv.doors.get m

def Ctl.setDoor (s : Ctl) (m : Mag) (d : Door) : Ctl := { s with inv := { s.inv with doors := s.inv.doors.set m d } }

def Ctl.setMail (s : Ctl) (m : MailSlot) : Ctl := { s with inv := { s.inv with mail := m } }

def Ctl.setPicker (s : Ctl) (p : Picker) : Ctl := { s with picker := p }

def Ctl.setClimate (s : Ctl) (c : Climate) : Ctl := { s with climate := c }

def Ctl.setCat (s : Ctl) (c : Catalog) : Ctl := { s with cat := c }

def Ctl.setDicts (s : Ctl) (d : Dicts) : Ctl := { s with dicts := d }

def Ctl.setVerify (s : Ctl) (v : VerifyUnit) : Ctl := { s with verify := v }

def Ctl.setRestore (s : Ctl) (r : RestoreUnit) : Ctl := { s with restore := r }

def Ctl.setStore (s : Ctl) (st : Store) : Ctl := { s with store := st }

def Ctl.setPanel (s : Ctl) (p : PanelPort) : Ctl := { s with panel := p }

def Ctl.setKey (s : Ctl) (k : Key) : Ctl := { s with inv := { s.inv with key := k } }

def Ctl.setProtectCode (s : Ctl) (p : Protect) : Ctl := { s with inv := { s.inv with protect := p } }

def Ctl.session (s : Ctl) (c : Chan) : Option Session := (s.chan c).session

def Ctl.setSession (s : Ctl) (c : Chan) (x : Session) : Ctl := s.setChan c { s.chan c with session := some x }

/-- The bank of a channel. -/
def Channel.bank (ch : Channel) : BankIx → Bank
  | .b0 => ch.bank0
  | .b1 => ch.bank1

def Channel.setBank (ch : Channel) : BankIx → Bank → Channel
  | .b0, b => { ch with bank0 := b }
  | .b1, b => { ch with bank1 := b }

def BankIx.other : BankIx → BankIx
  | .b0 => .b1
  | .b1 => .b0

def Ctl.setBank (s : Ctl) (c : Chan) (i : BankIx) (b : Bank) : Ctl := s.setChan c ((s.chan c).setBank i b)

/-! ## The link transmitter (R177) -/

/-- The channel whose DATA_IN frame goes next: the two take turns. -/
def LinkPort.nextData (p : LinkPort) : Option (Chan × DataIn) :=
  match p.data.get p.lastData.other with
  | some d => some (p.lastData.other, d)
  | none => (p.data.get p.lastData).map fun d => (p.lastData, d)

/-- An idle transmitter of an ONLINE link takes the next frame: a CREDIT frame, then the oldest response, then the oldest notice, then a DATA_IN frame, of which one that was cut off goes
first (R178). DESIGN CHOICE (log 88): the overflow flag of a notice is settled when its sending begins. -/
def LinkPort.kick (p : LinkPort) : LinkPort :=
  if p.online = true ∧ p.tx = none then
    match p.creditFrames with
    | (c, n) :: rest => { p with creditFrames := rest, tx := some (.credit c n) }
    | [] =>
      match p.responses with
      | r :: rest => { p with responses := rest, tx := some (.response r) }
      | [] =>
        match p.notices with
        | n :: rest => { p with notices := rest, overflow := false, tx := some (.notice n p.overflow) }
        | [] =>
          match p.cut with
          | some d => { p with cut := none, lastData := d.chan, tx := some (.data d) }
          | none =>
            match p.nextData with
            | some (c, d) => { p with data := p.data.set c none, lastData := c, tx := some (.data d) }
            | none => p
  else p

/-- Places the notice queue has taken: a notice leaves it when sent, so the one being sent still counts. -/
def LinkPort.noticeCount (p : LinkPort) : Nat :=
  p.notices.length + match p.tx with
    | some (.notice _ _) => 1
    | _ => 0

/-- A notice joins a link's queue, or is lost with the overflow mark set when the queue is full (R177). -/
def LinkPort.pushNotice (p : LinkPort) (n : Notice) : LinkPort :=
  if p.noticeCount < Config.linkNoticeRoom then LinkPort.kick { p with notices := p.notices ++ [n] } else { p with overflow := true }

def LinkPort.pushResponse (p : LinkPort) (r : Response) : LinkPort := LinkPort.kick { p with responses := p.responses ++ [r] }

def LinkPort.pushCredit (p : LinkPort) (c : Chan) (n : Nat) : LinkPort := LinkPort.kick { p with creditFrames := p.creditFrames ++ [(c, n)] }

def LinkPort.offerData (p : LinkPort) (d : DataIn) : LinkPort := LinkPort.kick { p with data := p.data.set d.chan (some d) }

/-- A notice joins the panel's queue, or is lost (R177, R180). -/
def PanelPort.pushNotice (p : PanelPort) (n : Notice) : PanelPort :=
  if p.notices.length < Config.panelNoticeRoom then { p with notices := p.notices ++ [n] } else { p with overflow := true }

/-- PATN is low while the panel has anything to read (R180). -/
def PanelPort.attention (p : PanelPort) : Bool := !p.responses.isEmpty || p.refusal.isSome || !p.notices.isEmpty

/-! ## Notices and responses -/

/-- A notice to one requester. -/
def Ctl.notify (s : Ctl) (p : Requester) (n : Notice) : Ctl :=
  match p with
  | .link l => s.setLink l ((s.link l).pushNotice n)
  | .panel => s.setPanel (s.panel.pushNotice n)

def Ctl.notifyLink (s : Ctl) (l : Link) (n : Notice) : Ctl := s.notify (.link l) n

/-- A notice to a requester an order or activity may have none of. -/
def Ctl.notifyOpt (s : Ctl) (p : Option Requester) (n : Notice) : Ctl :=
  match p with
  | some q => s.notify q n
  | none => s

/-- A notice to every requester. -/
def Ctl.notifyAll (s : Ctl) (n : Notice) : Ctl := ((s.notify (.link .a) n).notify (.link .b) n).notify .panel n

/-- The response to a request (R176, R180). -/
def Ctl.respond (s : Ctl) (p : Requester) (tag : Nat) (code : Code) (r : Result := .none) : Ctl :=
  match p with
  | .link l => s.setLink l ((s.link l).pushResponse { tag := tag, code := code, result := r })
  | .panel => s.setPanel { s.panel with responses := s.panel.responses ++ [{ tag := tag, code := code, result := r }] }

/-! ## Requests (R176) -/

def Ctl.requests (s : Ctl) : Requester → List QueuedReq
  | .link l => (s.link l).requests
  | .panel => s.panel.requests

/-- A link's responses not yet sent, without the QUEUE_FULL answers the port has made at once (R177). -/
def LinkPort.unsent (p : LinkPort) : Nat :=
  (p.responses.filter fun r => !r.atPort).length + match p.tx with
    | some (.response r) => if r.atPort then 0 else 1
    | _ => 0

/-- A port takes requests while its link is ONLINE (R178). DEDUCED (log 51): while 8 responses of the link are unsent, its bound in R177, it takes none. The panel port always does. -/
def Ctl.takesRequests (s : Ctl) : Requester → Bool
  | .link l => (s.link l).online && decide ((s.link l).unsent < Config.linkRequestRoom)
  | .panel => true

/-- The request at the head of a port's queue, where the port takes one. -/
def Ctl.headRequest (s : Ctl) (p : Requester) : Option QueuedReq :=
  if s.takesRequests p then (s.requests p).head? else none

def Ctl.popRequest (s : Ctl) (p : Requester) : Ctl :=
  match p with
  | .link l => s.setLink l { s.link l with requests := (s.link l).requests.tail }
  | .panel => s.setPanel { s.panel with requests := s.panel.requests.tail }

/-- The head request of a port, when it is this request: it leaves the queue, is answered NOT_PERMITTED where R181 says so, and is otherwise handed to its
owner `f`. A request that does not stand at the head is not taken. -/
def Ctl.takeRequest (s : Ctl) (p : Requester) (r : Req) (f : Nat → Ctl → Ctl) : Ctl :=
  match s.headRequest p with
  | some q =>
    if Req.decode q.code q.args = some r then
      if r.permitted p then f q.tag (s.popRequest p) else (s.popRequest p).respond p q.tag .notPermitted
    else s
  | none => s

/-! ## The Store Controller's view of changes (R167 to R169) -/

/-- A change reported to the Store Controller (R167). -/
def Store.noteChange (st : Store) : Store :=
  match st.state with
  | .clean => { st with state := .dirty }
  | .saving => { st with changed := true }
  | _ => st

def Ctl.changed (s : Ctl) : Ctl := s.setStore s.store.noteChange

/-- What the image holds, copied from the working state (R167). -/
def Ctl.image (s : Ctl) : Image :=
  { protect := s.inv.protect, watches := s.climate.watches, interval := s.climate.interval, acclimation := s.climate.acclimation,
    policies := s.verify.policies, auto := s.store.auto, dicts := s.dicts, catalog := s.cat }

/-- A requester joins a list of those a checkpoint serves, once. -/
def addRequester (p : Option Requester) (l : List Requester) : List Requester :=
  match p with
  | some q => if q ∈ l then l else l ++ [q]
  | none => l

/-- A checkpoint starts: the snapshot is taken, the store is SAVING, and the erase is ordered, from which moment the flash holds no good image (R168). -/
def Ctl.startCheckpoint (s : Ctl) (served : List Requester) : Ctl :=
  s.setStore { s.store with state := .saving, changed := false, snapshot := some s.image, op := .erase, served := served, flash := none }

/-- A checkpoint is asked for, by a requester or by a catalog event (R169). DESIGN CHOICE (log 35): while the image is being read for a RELOAD the one flash operation
allowed at a time is taken, and the request is pending as it is in SAVING; so it is while a RELOAD that has read its image waits. -/
def Ctl.askCheckpoint (s : Ctl) (p : Option Requester) : Ctl :=
  if s.store.state = .saving ∨ s.store.op = .read ∨ s.store.reload = .again then
    s.setStore { s.store with pending := true, nextServed := addRequester p s.store.nextServed }
  else s.startCheckpoint (addRequester p [])

/-- An auto-checkpoint is asked for when the setting is on (R169). -/
def Ctl.autoCheckpoint (s : Ctl) : Ctl := if s.store.auto then s.askCheckpoint none else s

end Sys2Proof.Machine
end

