-- ==== Sys2Proof/Machine/Catalog.lean ====
section
/-! DEFINITION. The Volume Catalog (chapter 4): labels and classes, cartridge and set records, extents, index points, dictionary references, retention, and
the figures computed from the records (R100, R137). -/

namespace Sys2Proof.Machine

/-! ## Labels and classes (R3) -/

/-- A character a readable label may hold: A to Z or 0 to 9. -/
def readableChar (b : Byte) : Bool := (0x41 ≤ b.toNat && b.toNat ≤ 0x5A) || (0x30 ≤ b.toNat && b.toNat ≤ 0x39)

/-- A readable label has 8 characters A to Z and 0 to 9 (R3). -/
def readableLabel (l : Label) : Bool := l.length == 8 && l.all readableChar

/-- The class a label gives (R3): its last two characters, "S1" or "L1"; any other ending, and every provisional label, is UNSUPPORTED. -/
def classOf (l : Label) : CartClass :=
  if readableLabel l then
    if l.drop 6 = [0x53#8, 0x31#8] then .s else if l.drop 6 = [0x4C#8, 0x31#8] then .l else .unsupported
  else .unsupported

/-- Class capacity in tape frames (R131); a class UNSUPPORTED cartridge has none. -/
def CartClass.capacity : CartClass → Nat
  | .s => 180000000
  | .l => 360000000
  | .unsupported => 0

/-- Early-warning point: capacity − capacity / 64 (R131). -/
def CartClass.warning (k : CartClass) : Nat := k.capacity - k.capacity / 64

/-! ## Figures -/

/-- The ratio figure (R100). -/
def ratio (native coded : Nat) : Nat := if coded = 0 then 0 else min (native * 100 / coded) 9999

/-- The capacity estimate in MiB (R137). -/
def Cart.estimate (c : Cart) : Nat :=
  match classOf c.label with
  | .unsupported => 0
  | k => (k.capacity - c.frames - Config.reservedFrames) * (if 0 < c.coded then ratio c.native c.coded else 100) / Config.estimateDivisor

/-- The pass tag (R122): generation mod 4. -/
def Cart.passTag (c : Cart) : Nat := c.generation % 4

/-! ## Records -/

def Catalog.cart? (k : Catalog) (l : Label) : Option Cart := k.carts.find? fun c => c.label = l

def Catalog.set? (k : Catalog) (id : Nat) : Option SetRec := k.sets.find? fun r => r.id = id

def Catalog.modCart (k : Catalog) (l : Label) (f : Cart → Cart) : Catalog :=
  { k with carts := k.carts.map fun c => if c.label = l then f c else c }

def Catalog.modSet (k : Catalog) (id : Nat) (f : SetRec → SetRec) : Catalog :=
  { k with sets := k.sets.map fun r => if r.id = id then f r else r }

/-- A set record joins the list at its place by id. -/
def insertSet (r : SetRec) : List SetRec → List SetRec
  | [] => [r]
  | x :: rest => if r.id < x.id then r :: x :: rest else x :: insertSet r rest

/-- A set record is deleted: its id leaves the set list of every cartridge (R64). -/
def Catalog.deleteSet (k : Catalog) (id : Nat) : Catalog :=
  { k with sets := k.sets.filter (fun r => r.id ≠ id), carts := k.carts.map fun c => { c with sets := c.sets.filter (· ≠ id) } }

/-- The new record of a cartridge whose label was read for the first time (R59). -/
def Cart.fresh (l : Label) (loc : Option Element) : Cart :=
  { label := l, generation := 0, state := .unknown, loc := loc, frames := 0, eod := 1, early := false, native := 0, coded := 0, sets := [] }

/-- A catalog change is reported to the Store Controller (R78); nothing that stays as it was is a change. -/
def Ctl.putCat (s : Ctl) (k : Catalog) : Ctl := if k = s.cat then s else (s.setCat k).changed

def Ctl.modCart (s : Ctl) (l : Label) (f : Cart → Cart) : Ctl := s.putCat (s.cat.modCart l f)

def Ctl.modSet (s : Ctl) (id : Nat) (f : SetRec → SetRec) : Ctl := s.putCat (s.cat.modSet id f)

/-- A catalogued cartridge's location becomes the one given (R2). -/
def Ctl.setLoc (s : Ctl) (l : Option Label) (loc : Option Element) : Ctl :=
  match l with
  | some l => s.modCart l fun c => { c with loc := loc }
  | none => s

def Ctl.setCartState (s : Ctl) (l : Label) (st : CartState) : Ctl := s.modCart l fun c => { c with state := st }

/-- A cartridge on which a set has just ended with its summary written becomes FULL where R61 says so. -/
def Cart.fullIfDue (c : Cart) : Cart :=
  if c.state = .opened ∧ (c.early = true ∨ Config.setListRoom ≤ c.sets.length) then { c with state := .full } else c

/-! ## Set records -/

/-- The set record OPEN_SET creates (R62). -/
def SetRec.fresh (id : Nat) (owner : Link) (day ret dict gen : Nat) : SetRec :=
  { id := id, owner := owner, state := .opening, writtenDay := day, retention := ret, dict := dict, dictGen := gen, extents := [], blocks := 0,
    records := 0, native := 0, coded := 0, index := [], interval := Config.firstInterval, verify := .never, passes := 0, bad := 0, badList := [],
    badMore := false }

/-- The number after `n` in a count from 1 to `last` that wraps. -/
def wrapNext (last n : Nat) : Nat := if last ≤ n then 1 else n + 1

/-- The first value from `n` on, wrapping, that is not in use; `fuel` bounds the search and exceeds the number in use. -/
def firstFree (last : Nat) (used : List Nat) : Nat → Nat → Nat
  | 0, n => n
  | fuel + 1, n => if n ∈ used then firstFree last used fuel (wrapNext last n) else n

/-- The id the next set record takes (R63). -/
def Catalog.newSetId (k : Catalog) : Nat := firstFree Config.lastSetId (k.sets.map (·.id)) (k.sets.length + 1) k.nextSetId

/-- A set references a dictionary slot at a generation while it is not EXPIRED (R68). Slot 0 is never in the way. -/
def Catalog.references (k : Catalog) (slot gen : Nat) : Bool :=
  slot ≠ 0 && k.sets.any fun r => r.dict = slot && r.dictGen = gen && r.state ≠ .expired

/-- The retention has run out on day `t` (R69). -/
def SetRec.runOut (r : SetRec) (t : Nat) : Bool := r.writtenDay + r.retention ≤ t

/-- Every set of the list is EXPIRED. -/
def Catalog.allExpired (k : Catalog) (ids : List Nat) : Bool :=
  ids.all fun id => match k.set? id with
    | some r => r.state = .expired
    | none => true

/-- The extents on a cartridge leave a set, and their blocks its total (R73, step 1). -/
def SetRec.withoutCart (r : SetRec) (l : Label) : SetRec :=
  { r with extents := r.extents.filter (fun x => x.label ≠ l), blocks := r.blocks - ((r.extents.filter (fun x => x.label = l)).map (·.count)).sum }

/-- Step 1 of R73 for one set of the cartridge's list: a set left with no extents is deleted. -/
def Catalog.dropFromCart (k : Catalog) (l : Label) (id : Nat) : Catalog :=
  match k.set? id with
  | some r =>
    let r' := r.withoutCart l
    if r'.extents = [] then k.deleteSet id else k.modSet id fun _ => r'
  | none => k

/-- Step 1 of R73 for every set of the cartridge's list. -/
def Catalog.dropExtents (k : Catalog) (l : Label) : Catalog :=
  match k.cart? l with
  | some c => c.sets.foldl (fun k id => k.dropFromCart l id) k
  | none => k

/-- The extent that holds a set block number (R159); an extent with no blocks holds none. -/
def SetRec.extentOf (r : SetRec) (b : Nat) : Option (Nat × Extent) :=
  (r.extents.zipIdx.find? fun x => x.1.firstBlock ≤ b && b < x.1.firstBlock + x.1.count).map fun x => (x.2, x.1)

/-- The label of a set's last extent. -/
def SetRec.lastLabel (r : SetRec) : Option Label := r.extents.getLast?.map (·.label)

/-! ## Index points (R67) -/

/-- The index point rule for a block just written. -/
def SetRec.addIndex (r : SetRec) (b record : Nat) (cont : Bool) : SetRec :=
  let pt : IndexPoint := { block := b, record := record, cont := cont }
  if b = 0 then { r with index := r.index ++ [{ block := 0, record := 0, cont := false }] }
  else if b % r.interval ≠ 0 then r
  else if r.index.length < Config.indexRoom then { r with index := r.index ++ [pt] }
  else
    let iv := 2 * r.interval
    let kept := r.index.filter fun x => x.block % iv = 0
    { r with interval := iv, index := if b % iv = 0 then kept ++ [pt] else kept }

/-- The count of the set's last extent grows by one (R66, step 1). -/
def bumpLast : List Extent → List Extent
  | [] => []
  | [x] => [{ x with count := x.count + 1 }]
  | x :: rest => x :: bumpLast rest

/-- A data block of the set has been written (R66). -/
def SetRec.countBlock (r : SetRec) (block native coded ends record : Nat) (cont : Bool) : SetRec :=
  let r := { r with extents := bumpLast r.extents, blocks := r.blocks + 1, native := r.native + native, coded := r.coded + coded, records := r.records + ends }
  r.addIndex block record cont

/-- An extent is added and the set joins the cartridge's list (R65); the set is WRITING from its first extent on (R64). -/
def Ctl.addExtent (s : Ctl) (id : Nat) (x : Extent) : Ctl :=
  s.putCat ((s.cat.modSet id fun r => { r with extents := r.extents ++ [x], state := .writing }).modCart x.label fun c => { c with sets := c.sets ++ [id] })

/-! ## What becomes of a loaded catalog (R79) -/

/-- OPENING sets are deleted, WRITING sets become TRUNCATED, and the cartridge of the last extent of each becomes UNKNOWN. -/
def Catalog.settle (k : Catalog) : Catalog :=
  let torn := k.sets.filter fun r => r.state = .writing
  let tornLabels := torn.filterMap (·.lastLabel)
  let openIds := (k.sets.filter fun r => r.state = .opening).map (·.id)
  { k with
    sets := (k.sets.filter fun r => r.state ≠ .opening).map fun r => if r.state = .writing then { r with state := .truncated } else r
    carts := k.carts.map fun c =>
      { c with sets := c.sets.filter (· ∉ openIds), state := if c.label ∈ tornLabels then .unknown else c.state } }

end Sys2Proof.Machine
end

