-- ==== Sys2Proof/Machine/Inventory.lean ====
section
/-! DEFINITION. The Inventory Table's operations (chapter 1): protection, reservations, provisional and duplicate labels, the per-slot audit rule, the
label rule of a fetch, the search for a free slot, and which cartridges are in use (R21). -/

namespace Sys2Proof

/-- Every element, in the order S01 to S24, M, T0, T1, P. -/
def Element.all : List Element :=
  (List.finRange 24).map .slot ++ [.mail, .transport .c0, .transport .c1, .gripper]

/-- The slots of a magazine, in ascending order. -/
def Mag.slots (m : Mag) : List Element := ((List.finRange 24).map Element.slot).filter fun e => e.mag = some m

/-- An element's id as the manual writes it, in ASCII. -/
def Element.name : Element → List Byte
  | .slot i => [0x53#8, BitVec.ofNat 8 (0x30 + (i.val + 1) / 10), BitVec.ofNat 8 (0x30 + (i.val + 1) % 10)]
  | .mail => [0x4D#8]
  | .transport .c0 => [0x54#8, 0x30#8]
  | .transport .c1 => [0x54#8, 0x31#8]
  | .gripper => [0x50#8]

end Sys2Proof

namespace Sys2Proof.Machine

/-! ## Protection (R7, R8) -/

/-- The number of protected slots a size index gives (R7). -/
def Protect.count (p : Protect) : Nat :=
  match p.idx with
  | 0 => 0
  | 1 => 1
  | 2 => 2
  | 3 => 4
  | 4 => 8
  | 5 => 12
  | 6 => 16
  | 7 => 20
  | _ => 24

/-- Whether a slot is protected (R7): S01 to Sn for BOTTOM, S(25 − n) to S24 for TOP. -/
def Protect.covers (p : Protect) (i : Fin 24) : Bool :=
  match p.dir with
  | .bottom => i.val < p.count
  | .top => 24 ≤ i.val + p.count

/-- An element is protected when it is a protected slot. -/
def Ctl.slotProtected (s : Ctl) : Element → Bool
  | .slot i => s.inv.protect.covers i
  | _ => false

/-- A cartridge is protected when its entry has a home slot and that slot is protected (R8). -/
def Ctl.entryProtected (s : Ctl) (en : Option Entry) : Bool :=
  match en with
  | some e => match e.home with
    | some h => s.inv.protect.covers h
    | none => false
  | none => false

/-- Some slot of the magazine is protected (R9). -/
def Ctl.magProtected (s : Ctl) (m : Mag) : Bool := m.slots.any s.slotProtected

/-! ## Reservations (R6) -/

/-- The element is reserved by a requester other than the one given. An order on behalf of no requester is not stopped by reservations. -/
def Ctl.reservedByOther (s : Ctl) (p : Option Requester) (e : Element) : Bool :=
  match p, (s.elem e).reserved with
  | some q, some r => r ≠ q
  | _, _ => false

/-! ## Doors -/

/-- The element lies in a magazine whose door is not LOCKED (R13). -/
def Ctl.doorBusy (s : Ctl) (e : Element) : Bool :=
  match e.mag with
  | some m => (s.door m).state ≠ .locked
  | none => false

/-! ## Labels -/

/-- The label of the entry at an element. -/
def Ctl.labelAt (s : Ctl) (e : Element) : Option Label := (s.elem e).entry.bind (·.label)

/-- The label stands in the entry of an element that is not UNCERTAIN, other than the one left out. -/
def Ctl.standsElsewhere (s : Ctl) (l : Label) (except : Element) : Bool :=
  Element.all.any fun e => e ≠ except && (s.elem e).occ ≠ .uncertain && s.labelAt e = some l

/-- The element that is not UNCERTAIN and holds the label. -/
def Ctl.findLabel (s : Ctl) (l : Label) : Option Element :=
  Element.all.find? fun e => (s.elem e).occ ≠ .uncertain && s.labelAt e = some l

/-- The provisional labels of a cartridge read at an element, in the order they are tried (R4): "?" and the element's id, then that with a letter A to Z. DESIGN CHOICE (log
28): the 28th is tried where 27 other elements hold all of those. -/
def provisionalLabels (e : Element) : List Label :=
  let base : Label := 0x3F#8 :: e.name
  base :: ((List.range 26).map fun k => base ++ [BitVec.ofNat 8 (0x41 + k)]) ++ [base ++ [0x5A#8, 0x41#8]]

/-- The provisional label of a cartridge read at an element (R4); `holder` is the element whose record is about to get it. -/
def Ctl.provisionalLabel (s : Ctl) (e holder : Element) : Label :=
  ((provisionalLabels e).find? fun l => !s.standsElsewhere l holder).getD []

/-- An entry about to stand at an element: a label that stands elsewhere already is turned into a provisional one first (R1, R4). -/
def Ctl.apart (s : Ctl) (e : Element) (en : Entry) : Entry :=
  match en.label with
  | some l => if s.standsElsewhere l e then { en with label := some (s.provisionalLabel e e) } else en
  | none => en

/-- The element becomes FULL with an entry, under the law of the library's elements (R1). -/
def Ctl.place (s : Ctl) (e : Element) (en : Option Entry) : Ctl := s.fill e .full (en.map (s.apart e))

/-- The entry of a cartridge of which nothing is known: found in the gripper, or at M before an import has read it. It is a newly found one (R2, log 48). -/
def Ctl.unread (s : Ctl) : Entry := { label := none, home := none, acclim := s.climate.acclimation, tab := .unknown }

/-- A report that breaks the character or length rule is treated as unreadable (R3). -/
def validLabel : LabelRead → Option Label
  | .label l => if readableLabel l then some l else none
  | .unreadable => none

/-- A readable label is settled in the catalog at its element (R2): an existing record's location becomes the element; otherwise an UNKNOWN record is created
while fewer than 64 are held (R59). A provisional label is not catalogued. -/
def Ctl.catalogue (s : Ctl) (l : Label) (e : Element) : Ctl :=
  match s.cat.cart? l with
  | some _ => s.setLoc (some l) (some e)
  | none =>
    if readableLabel l && s.cat.carts.length < Config.cartridgeRoom then s.putCat { s.cat with carts := s.cat.carts ++ [Cart.fresh l (some e)] } else s

/-- A cartridge newly found at `e`, to be held by `holder`: the label it gets (R4), with the notice of a duplicate, and its catalogue entry (R2). -/
def Ctl.newLabel (s : Ctl) (e holder : Element) (rd : Option Label) : Ctl × Label :=
  match rd with
  | some l =>
    if s.standsElsewhere l holder then (s.notifyAll (.duplicateLabel l e), s.provisionalLabel e holder)
    else (s.catalogue l holder, l)
  | none => (s, s.provisionalLabel e holder)

/-- The home slot an audit gives a newly found cartridge (R2). -/
def Element.homeOf : Element → Option (Fin 24)
  | .slot i => some i
  | _ => none

/-- A newly found cartridge at an element (R17). -/
def Ctl.foundAt (s : Ctl) (e : Element) (rd : Option Label) (acclim : Nat) : Ctl :=
  let (s1, l) := s.newLabel e e rd
  s1.fill e .full (some { label := some l, home := Element.homeOf e, acclim := acclim, tab := .unknown })

/-- The label a READ reports; one that breaks the character or length rule is treated as unreadable (R3). -/
def validRead : ReadReport → Option Label
  | .label l => if readableLabel l then some l else none
  | _ => none

/-- The per-slot rule of an audit (R17): what the reader reports at an element rebuilds its record. The last known entry is kept whole where the label read is its own or is
unreadable, unless its label stands elsewhere by now (R1, log 28); its catalogued flag is settled no more (log 50). `acclim` is what a newly found cartridge is given. -/
def Ctl.auditElement (s : Ctl) (e : Element) (r : ReadReport) (acclim : Nat) : Ctl :=
  if r = .noCartridge then s.fill e .empty none
  else
    match s.labelAt e with
    | some k =>
      if (validRead r = some k ∨ validRead r = none) ∧ s.standsElsewhere k e = false then (s.fill e .full (s.elem e).entry).setLoc (some k) (some e)
      else s.foundAt e (validRead r) acclim
    | none => s.foundAt e (validRead r) acclim

/-- The label a FETCH reads is applied to the entry now in P, fetched from `src` (R3). `acclim` is what a newly found cartridge is given. DEDUCED (log 64): its home slot is that of a
cartridge an audit finds at its source element, so one from a transport or M has none (R2, R23). -/
def Ctl.applyFetchLabel (s : Ctl) (src : Element) (rd : LabelRead) (acclim : Nat) : Ctl :=
  match (s.elem .gripper).entry with
  | none => s
  | some en =>
    match validLabel rd with
    | some l =>
      if en.label = some l then s
      else
        let (s1, l') := (s.setLoc en.label none).newLabel src .gripper (some l)
        s1.fill .gripper .full (some { label := some l', home := Element.homeOf src, acclim := acclim, tab := .unknown })
    | none =>
      match en.label with
      | some _ => s
      | none =>
        s.fill .gripper .full (some { en with label := some (s.provisionalLabel src .gripper) })

/-- The admission of a waiting cartridge after a record has been deleted (R59): the first uncatalogued cartridge with a readable label. -/
def Ctl.admitWaiting (s : Ctl) : Ctl :=
  if s.cat.carts.length < Config.cartridgeRoom then
    match Element.all.find? fun e => (s.elem e).occ ≠ .uncertain && match s.labelAt e with
      | some l => readableLabel l && (s.cat.cart? l).isNone
      | none => false with
    | some e => match s.labelAt e with
      | some l => s.catalogue l e
      | none => s
    | none => s
  else s

/-! ## Slots for a cartridge -/

/-- The lowest slot that is EMPTY, not protected, not reserved by a requester other than the one given, and in a magazine whose door is LOCKED (R18, R20). -/
def Ctl.freeSlot (s : Ctl) (p : Option Requester) : Option Element :=
  (Mag.slots .l ++ Mag.slots .r).find? fun e =>
    (s.elem e).occ = .empty && !s.slotProtected e && !s.reservedByOther p e && !s.doorBusy e

/-- The lowest free slot for a put-back (R40): as `freeSlot`, but the cartridge's own home slot counts though it is protected. -/
def Ctl.freeSlotFor (s : Ctl) (p : Option Requester) (home : Option Element) : Option Element :=
  (Mag.slots .l ++ Mag.slots .r).find? fun e =>
    (s.elem e).occ = .empty && (!s.slotProtected e || decide (home = some e)) && !s.reservedByOther p e && !s.doorBusy e

/-- Where HOME leads for a cartridge (R18). DESIGN CHOICE (log 43): R18 names a home slot that is EMPTY and one that is FULL; an UNCERTAIN one is treated as FULL, so that the
lowest free slot is taken. -/
def Ctl.resolveHome (s : Ctl) (p : Option Requester) (en : Option Entry) : Option Element :=
  match en.bind (·.home) with
  | some h =>
    if (s.elem (.slot h)).occ = .empty then
      if s.reservedByOther p (.slot h) then none else some (.slot h)
    else s.freeSlot p
  | none => s.freeSlot p

/-! ## Use of cartridges and channels -/

/-- The cartridge of an extent of a set, by its place in the list. -/
def Ctl.extentLabel (s : Ctl) (set ix : Nat) : Option Label :=
  (s.cat.set? set).bind fun r => (r.extents[ix]?).map (·.label)

/-- A session's current or chosen cartridge (R21, R72). -/
def Ctl.sessionUses (s : Ctl) (x : Session) (l : Label) : Bool :=
  x.chosen = some l || (s.cat.set? x.setId).bind (·.lastLabel) = some l

/-- Some write session uses the cartridge. -/
def Ctl.usedBySession (s : Ctl) (l : Label) : Bool :=
  [Chan.c0, Chan.c1].any fun c => match s.session c with
    | some x => s.sessionUses x l
    | none => false

/-- Some restore, running or waiting, other than the one with the id left out, has it as its cartridge. -/
def Ctl.usedByRestore (s : Ctl) (l : Label) (except : Option Nat) : Bool :=
  (s.restore.queue ++ s.restore.running).any fun r => some r.id ≠ except && s.extentLabel r.set r.extent = some l

/-- A running or paused verify has it as its cartridge. -/
def Ctl.usedByVerify (s : Ctl) (l : Label) : Bool :=
  s.verify.queue.any fun v => v.state ≠ .waiting && s.extentLabel v.set v.extent = some l

/-- The running recovery reads it (R172). -/
def Ctl.usedByRecovery (s : Ctl) (l : Label) : Bool :=
  match s.store.recovery with
  | some r => r.label = l
  | none => false

/-- In use by a write session, restore, verify or recovery (R21, R172), apart from where it stands. -/
def Ctl.usedByActivity (s : Ctl) (l : Label) : Bool :=
  s.usedBySession l || s.usedByRestore l none || s.usedByVerify l || s.usedByRecovery l

/-- The catalog holds the cartridge's record with location OUTSIDE (R2). -/
def Ctl.isOutside (s : Ctl) (l : Label) : Bool := (s.cat.cart? l).any fun k => k.loc.isNone

/-- The element that keeps the label in its entry though it is UNCERTAIN (R1): the catalog location where that is such an element, or the first one. An entry that such an element still
keeps of a cartridge by now OUTSIDE is not that cartridge's: it has none (R72). -/
def Ctl.lastKnown (s : Ctl) (l : Label) : Option Element :=
  if s.isOutside l then none
  else
    let loc := ((s.cat.cart? l).bind (·.loc)).filter fun e => s.labelAt e = some l
    loc.orElse fun _ => Element.all.find? fun e => s.labelAt e = some l

/-- The element where a cartridge stands; where no element that is not UNCERTAIN holds its label, the one that last held it (R1, R24), or its catalog location (R2). -/
def Ctl.whereKnown (s : Ctl) (l : Label) : Option Element :=
  (s.findLabel l).orElse fun _ => (s.lastKnown l).orElse fun _ => (s.cat.cart? l).bind (·.loc)

/-- It stands in T0, T1 or P. -/
def Ctl.standsInMachine (s : Ctl) (l : Label) : Bool :=
  match s.whereKnown l with
  | some (.transport _) => true
  | some .gripper => true
  | _ => false

/-- In use as R21 defines it. -/
def Ctl.inUse (s : Ctl) (l : Label) : Bool := s.standsInMachine l || s.usedByActivity l

/-- A channel counts as IDLE: mode IDLE, no claim, nothing still ending on it (R102, R157). -/
def Ctl.chanIdle (s : Ctl) (c : Chan) : Bool :=
  let ch := s.chan c
  ch.mode = .idle && ch.claim = none && ch.drain = none && ch.session = none

/-- The entry in a transport's element. -/
def Ctl.entryIn (s : Ctl) (c : Chan) : Option Entry := (s.elem (.transport c)).entry

/-- The label in a transport's element, when the element is FULL. -/
def Ctl.labelIn (s : Ctl) (c : Chan) : Option Label :=
  if (s.elem (.transport c)).occ = .full then s.labelAt (.transport c) else none

/-- The label of the cartridge in a transport, whether or not the element is UNCERTAIN: a report of the transport is about that cartridge (R61, R66). -/
def Ctl.labelHeld (s : Ctl) (c : Chan) : Option Label := s.labelAt (.transport c)

/-- The transport that holds the cartridge, by its element. -/
def Ctl.transportOf (s : Ctl) (l : Label) : Option Chan :=
  if s.labelIn .c0 = some l then some .c0 else if s.labelIn .c1 = some l then some .c1 else none

/-- The tab state of a cartridge's entry. -/
def Ctl.tabOf (s : Ctl) (l : Label) : Tab :=
  match (s.findLabel l).bind fun e => (s.elem e).entry with
  | some en => en.tab
  | none => .unknown

/-- The entry of a cartridge, the last known one where its element is UNCERTAIN (R1); one that is OUTSIDE has none (R72). DESIGN CHOICE (log 79): a cartridge looked for after a failed PUT has
none either, though the picker keeps what was its entry. -/
def Ctl.entryOf (s : Ctl) (l : Label) : Option Entry := ((s.whereKnown l).bind fun e => (s.elem e).entry).filter fun en => en.label = some l

end Sys2Proof.Machine
end

