-- ==== Sys2Proof/Machine/Climate.lean ====
section
/-! DEFINITION. The Climate Monitor's operations (chapter 3): crossings, sampling restarts, the hold judgement, failures and the fail-safe hold. -/

namespace Sys2Proof.Machine

/-- The range of a quantity (3.1). -/
def Quantity.low : Quantity → Int
  | .temperature => -40
  | .humidity => 0

def Quantity.high : Quantity → Int
  | .temperature => 140
  | .humidity => 100

/-- A threshold clamped to its quantity's range (R47). -/
def Quantity.clamp (q : Quantity) (t : Int) : Int := max q.low (min q.high t)

def WatchId.other : WatchId → WatchId
  | .w1 => .w2
  | .w2 => .w1

/-- A reading crosses a watch (R47): a reading equal to the threshold does not. -/
def Watch.crossedBy (w : Watch) (v : Int) : Bool :=
  match w.direction with
  | .above => w.threshold < v
  | .below => v < w.threshold

/-- Some watch whose action is HOLD has a result that is valid and crossed. -/
def Climate.crossingHold (c : Climate) (w : WatchId) : Bool :=
  (c.watches.get w).action = .hold && (c.results.get w).valid && (c.results.get w).crossed

/-- The hold is active (R52). -/
def Climate.holdDue (c : Climate) : Bool := c.crossingHold .w1 || c.crossingHold .w2 || c.failSafe

/-- The cause a beginning hold names (R52). -/
def Climate.holdCause (c : Climate) : HoldCause :=
  if c.crossingHold .w1 then .watch .w1 else if c.crossingHold .w2 then .watch .w2 else .sensor

/-- The hold state is judged again (R52): on a change every requester is told. Which LOADs it defers follows from the state (R29). -/
def Ctl.judgeHold (s : Ctl) : Ctl :=
  if s.climate.holdDue = s.climate.hold then s
  else if s.climate.holdDue then
    (s.setClimate { s.climate with hold := true }).notifyAll (.hold true s.climate.holdCause)
  else (s.setClimate { s.climate with hold := false }).notifyAll (.hold false .cleared)

def Ctl.setResult (s : Ctl) (w : WatchId) (r : WatchResult) : Ctl := s.setClimate { s.climate with results := s.climate.results.set w r }

/-- The failure count returns to 0 and the fail-safe hold goes off; if it was on, SENSOR_FAULT(0) is sent (R50). -/
def Ctl.clearFailures (s : Ctl) : Ctl :=
  if s.climate.failSafe then (s.setClimate { s.climate with failures := 0, failSafe := false }).notifyAll (.sensorFault 0)
  else s.setClimate { s.climate with failures := 0 }

/-- Sampling restarts, with `first` tried before the other watch (R51). DESIGN CHOICE (log 55): where neither watch is enabled the next watch, which the rule does not name then, is left as
it is. DESIGN CHOICE (log 78): the count and the fail-safe hold go with the last watch disabled also where a reset restarts sampling, though R57's table leaves both unchanged. -/
def Ctl.restartSampling (s : Ctl) (first : WatchId) : Ctl :=
  let c := { s.climate with reading := none }
  if (c.watches.get first).enabled then s.setClimate { c with next := first, sampling := .running }
  else if (c.watches.get first.other).enabled then s.setClimate { c with next := first.other, sampling := .running }
  else (s.setClimate { c with sampling := .stopped }).clearFailures

/-- After a reading the next watch advances (R48): to the other watch when both are enabled. DESIGN CHOICE (log 54): it stays where only one is enabled, also after a crossing, for which R48
says both this and that it is left at the other watch. -/
def Climate.advance (c : Climate) (w : WatchId) : Climate :=
  if (c.watches.get w.other).enabled then { c with next := w.other } else { c with next := w }

/-- A failed reading (R50). -/
def Ctl.readingFailed (s : Ctl) (w : WatchId) : Ctl :=
  let s1 := s.setResult w .initial
  let n := min (s1.climate.failures + 1) 255
  let s2 := s1.setClimate { (s1.climate.advance w) with failures := n, reading := none }
  let s3 := if n = 3 ∧ s1.climate.failures = 2 then (s2.setClimate { s2.climate with failSafe := true }).notifyAll (.sensorFault 3) else s2
  s3.judgeHold

/-- The last reading of a quantity (R46). -/
def Climate.record (c : Climate) (q : Quantity) (v : Int) : Climate :=
  match q with
  | .temperature => { c with lastTemperature := some { value := v, age := 0 } }
  | .humidity => { c with lastHumidity := some { value := v, age := 0 } }

/-- A successful reading is compared with the watch it was taken for (R49, R50). -/
def Ctl.readingDone (s : Ctl) (w : WatchId) (v : Int) : Ctl :=
  let q := (s.climate.watches.get w).quantity
  let s1 := (s.setClimate { (s.climate.record q v).advance w with reading := none }).clearFailures.judgeHold
  if (s.climate.watches.get w).crossedBy v then
    let s2 := s1.setResult w { valid := true, crossed := true }
    let s3 := s2.setClimate { s2.climate with sampling := .suspended }
    (s3.notifyAll (.climate w q v)).judgeHold
  else (s1.setResult w { valid := true, crossed := false }).judgeHold

/-- The Climate Monitor's part of LIBRARY_RESET and RELOAD (R57): results cleared, sampling restarted with W1 first, the hold judged again. -/
def Ctl.resetClimate (s : Ctl) : Ctl :=
  ((s.setClimate { s.climate with results := ⟨.initial, .initial⟩ }).restartSampling .w1).judgeHold

/-- One second passes for the ages of the last readings (R46, R53). -/
def Climate.tick (c : Climate) : Climate :=
  { c with lastTemperature := c.lastTemperature.map fun r => { r with age := r.age + 1 }
           lastHumidity := c.lastHumidity.map fun r => { r with age := r.age + 1 } }

end Sys2Proof.Machine
end

