-- ==== Sys2Proof/Machine/Coding.lean ====
section
/-! DEFINITION. History coding (chapter 5): the dictionary slots, the coder's greedy parse with its stored-raw guard, and the expander. -/

namespace Sys2Proof.Machine

/-! ## Dictionary slots (R81) -/

/-- A slot's contents and generation; slot 0 is always empty at generation 0. -/
def Dicts.slot? (d : Dicts) : Nat → Option DictSlot
  | 0 => some .empty
  | 1 => some d.s1
  | 2 => some d.s2
  | 3 => some d.s3
  | _ => none

/-- The generation of a slot 0 to 3. -/
def Dicts.gen (d : Dicts) (n : Nat) : Nat :=
  match d.slot? n with
  | some x => x.generation
  | none => 0

/-- The contents of a slot 0 to 3. -/
def Dicts.contents (d : Dicts) (n : Nat) : List Byte :=
  match d.slot? n with
  | some x => x.bytes
  | none => []

/-- A slot's contents are replaced and its generation increases, wrapping from 255 to 0 (R82). -/
def DictSlot.write (x : DictSlot) (bs : List Byte) : DictSlot := { bytes := bs, generation := (x.generation + 1) % 256 }

/-- Slots 1 to 3 can be written; slot 0 cannot. -/
def Dicts.write (d : Dicts) (n : Nat) (bs : List Byte) : Dicts :=
  match n with
  | 1 => { d with s1 := d.s1.write bs }
  | 2 => { d with s2 := d.s2.write bs }
  | 3 => { d with s3 := d.s3.write bs }
  | _ => d

/-! ## History (R85, R86) -/

/-- The byte at a history position: the dictionary stands at −D to −1, the block at 0 onward. -/
def histByte (dict block : List Byte) (q : Int) : Option Byte :=
  if 0 ≤ q then block[q.toNat]? else if 0 ≤ q + dict.length then dict[(q + dict.length).toNat]? else none

/-- The hash of three bytes. -/
def hash3 (b0 b1 b2 : Byte) : Nat := (121 * b0.toNat + 11 * b1.toNat + b2.toNat) % 1024

/-- The hash table: a head holds the position most recently inserted under its number, which is the first one listed. -/
abbrev Heads := List (Nat × Int)

def Heads.find (h : Heads) (n : Nat) : Option Int := (h.find? fun x => x.1 = n).map (·.2)

/-- The hash of the three bytes at a position, when they lie in the history. -/
def hashAt (dict block : List Byte) (q : Int) : Option Nat :=
  match histByte dict block q, histByte dict block (q + 1), histByte dict block (q + 2) with
  | some a, some b, some c => some (hash3 a b c)
  | _, _, _ => none

/-- A position is inserted when its three bytes lie in the history (R86). -/
def insertHead (dict block : List Byte) (h : Heads) (q : Int) : Heads :=
  match hashAt dict block q with
  | some n => (n, q) :: h
  | none => h

/-- The positions −D to −3 of the dictionary, inserted in increasing order (R87). -/
def primeHeads (dict : List Byte) : Heads :=
  (List.range (dict.length - 2)).foldl (fun h k => insertHead dict [] h ((k : Int) - dict.length)) []

/-- The candidate of position `p`, if it has one (R88). -/
def candidate (dict block : List Byte) (h : Heads) (p : Nat) : Option Int :=
  if block.length - p < 3 then none
  else
    match hashAt dict block p with
    | some n =>
      match h.find n with
      | some c =>
        if 1 ≤ (p : Int) - c ∧ (p : Int) - c ≤ 4096
            ∧ histByte dict block c = histByte dict block p
            ∧ histByte dict block (c + 1) = histByte dict block ((p : Int) + 1)
            ∧ histByte dict block (c + 2) = histByte dict block ((p : Int) + 2) then some c
        else none
      | none => none
    | none => none

/-- The match length grown from `m` (R89, step 2). -/
def growMatch (dict block : List Byte) (p : Nat) (c : Int) : Nat → Nat → Nat
  | 0, m => m
  | fuel + 1, m =>
    if m < 130 ∧ p + m < block.length ∧ histByte dict block (c + m) = histByte dict block ((p : Int) + m) then
      growMatch dict block p c fuel (m + 1)
    else m

/-- A literal run token (R91); an empty run gives none. -/
def literalToken (run : List Byte) : List Byte := if run = [] then [] else BitVec.ofNat 8 (run.length - 1) :: run

/-- A match token of length `m` and distance `d` (R91). -/
def matchToken (m d : Nat) : List Byte := BitVec.ofNat 8 (128 + (m - 3)) :: beBytes 2 (d - 1)

/-- The bytes a pending run counts for (R92). -/
def runCost (run : List Byte) : Nat := if run = [] then 0 else run.length + 1

/-- Positions `p` to `p + m − 1` are inserted where q + 2 ≤ N − 1 (R89, step 5; R90, step 2). -/
def insertRange (dict block : List Byte) (h : Heads) (p m : Nat) : Heads :=
  (List.range m).foldl (fun h k => if p + k + 2 < block.length then insertHead dict block h ((p + k : Nat) : Int) else h) h

/-- The parse from position `p` (R88 to R92): `out` are the tokens emitted, `run` the pending literal run. `none` means that the stored-raw guard cut it short. -/
def parseFrom (dict block : List Byte) : Nat → Nat → Heads → List Byte → List Byte → Option (List Byte)
  | 0, _, _, run, out => some (out ++ literalToken run)
  | fuel + 1, p, h, run, out =>
    match block[p]? with
    | none => some (out ++ literalToken run)
    | some b =>
      match candidate dict block h p with
      | some c =>
        if out.length + runCost run + 3 > block.length then none
        else
          let m := growMatch dict block p c 127 3
          parseFrom dict block fuel (p + m) (insertRange dict block h p m) [] (out ++ literalToken run ++ matchToken m ((p : Int) - c).toNat)
      | none =>
        let run := run ++ [b]
        if out.length + runCost run > block.length then none
        else
          let h := insertRange dict block h p 1
          if run.length = 128 then parseFrom dict block fuel (p + 1) h [] (out ++ literalToken run)
          else parseFrom dict block fuel (p + 1) h run out

/-- The tokens of a block (R87 to R91), or `none` when it is stored raw (R92). -/
def codeTokens (dict block : List Byte) : Option (List Byte) := parseFrom dict block (block.length + 1) 0 (primeHeads dict) [] []

/-- The coder's result for a closed bank (R93). -/
def codeBank (ix : BankIx) (b : Bank) (st : Stamp) (slot : Nat) (dict : DictSlot) : CodedBlock :=
  let tokens := codeTokens dict.bytes b.bytes
  { bank := ix, native := b.bytes.length, raw := tokens.isNone, payload := tokens.getD b.bytes, dict := slot, dictGen := dict.generation,
    nativeCrc := crc b.bytes, ends := b.ends, stamp := st }

/-- The coded length (R93). -/
def CodedBlock.coded (b : CodedBlock) : Nat := b.payload.length

/-! ## The expander (R94 to R97) -/

/-- The checks before decoding, in R94's order, against the slot the header names: `none` where its number is above 3. -/
def expandCheck (slot : Option DictSlot) (h : Header) : Option CodingFault :=
  match slot with
  | none => some .badSlot
  | some x =>
    if h.dictGen ≠ x.generation then some .dictionaryGeneration
    else if h.native = 0 ∨ Config.bankBytes < h.native then some .badLength
    else if h.raw then if h.coded ≠ h.native then some .rawLength else none
    else if h.coded = 0 ∨ h.native < h.coded then some .rawLength
    else none

/-- A match copied one byte at a time (R95). -/
def copyMatch (dict : List Byte) (d : Nat) : Nat → List Byte → List Byte
  | 0, out => out
  | m + 1, out =>
    match histByte dict out ((out.length : Int) - d) with
    | some b => copyMatch dict d m (out ++ [b])
    | none => out

/-- What an expansion yields: the output, and the fault that ended it if one did. -/
structure Expansion where
  out : List Byte
  fault : Option CodingFault
  deriving DecidableEq, Repr

/-- Decoding, token by token (R95), with the faults of R96 tested in its order. -/
def decodeFrom (dict : List Byte) (native : Nat) : Nat → List Byte → List Byte → Expansion
  | 0, _, out => { out := out, fault := if out.length = native then none else some .short }
  | fuel + 1, payload, out =>
    match payload with
    | [] => { out := out, fault := if out.length = native then none else some .short }
    | k :: rest =>
      if k.toNat < 128 then
        let n := k.toNat + 1
        if rest.length < n then { out := out, fault := some .truncatedToken }
        else if native < out.length + n then { out := out, fault := some .overlong }
        else decodeFrom dict native fuel (rest.drop n) (out ++ rest.take n)
      else
        let m := k.toNat - 125
        match rest with
        | hi :: lo :: rest' =>
          let field := beNat [hi, lo]
          if 4095 < field then { out := out, fault := some .distanceRange }
          else if out.length + dict.length < field + 1 then { out := out, fault := some .beforeDictionary }
          else if native < out.length + m then { out := out, fault := some .overlong }
          else decodeFrom dict native fuel rest' (copyMatch dict (field + 1) m out)
        | _ => { out := out, fault := some .truncatedToken }

/-- The expansion of a block with the slot it names, as that stood when the block started (R81, R94 to R96). -/
def expandWith (slot : Option DictSlot) (b : TapeBlock) : Expansion :=
  match expandCheck slot b.hdr with
  | some f => { out := [], fault := some f }
  | none =>
    if b.hdr.raw then { out := b.payload, fault := none }
    else decodeFrom ((slot.map (·.bytes)).getD []) b.hdr.native (b.payload.length + 1) b.payload []

/-- The expansion of a block that starts now. -/
def expand (d : Dicts) (b : TapeBlock) : Expansion := expandWith (d.slot? b.hdr.dict) b

/-- The native check (R97): the CRC over the output equals the one in the block's trailer. -/
def nativeMatches (b : TapeBlock) (out : List Byte) : Bool := crc out = b.nativeCrc

end Sys2Proof.Machine
end

