-- ==== Sys2Proof/Machine/Tape.lean ====
section
/-! DEFINITION. Tape blocks (7.2): building the volume, data and summary blocks, reading a block back and its results (R124), block cost (R131), and what
BLOCK_WRITTEN does to the accounting (R132). -/

namespace Sys2Proof.Machine

/-! ## Building (R122, R123) -/

def flagBit (b : Bool) (n : Nat) : Nat := if b then 2 ^ n else 0

/-- The flags byte: bit 0 stored-raw, 1 end-of-set, 2 truncated, 3 continues, 4 continued-record. -/
def Header.flags (h : Header) : Nat :=
  flagBit h.raw 0 + flagBit h.endOfSet 1 + flagBit h.truncated 2 + flagBit h.continues 3 + flagBit h.cont 4

/-- The 48 bytes of a header (R122). -/
def Header.bytes (h : Header) : List Byte :=
  byteOf h.kind ++ byteOf h.passTag ++ byteOf h.flags ++ byteOf h.dict ++ wordOf h.set ++ byteOf h.extent ++ byteOf h.ends
    ++ beBytes 4 h.block ++ beBytes 4 h.native ++ beBytes 4 h.coded ++ beBytes 4 h.record ++ beBytes 4 h.recordsBefore
    ++ padLabel h.label ++ wordOf h.generation ++ byteOf h.dictGen ++ byteOf 0 ++ wordOf h.day ++ beBytes 4 h.before ++ wordOf 0

/-- A record-end list on tape: each offset minus 1 in two bytes (R122). -/
def endsBytes (ends : List Nat) : List Byte := ends.flatMap fun o => wordOf (o - 1)

/-- Header, record-end list, payload, then the block CRC over the three and the native CRC (R122, R99). -/
def blockBytes (h : Header) (ends : List Nat) (payload : List Byte) (nativeCrc : BitVec 32) : List Byte :=
  let body := h.bytes ++ endsBytes ends ++ payload
  body ++ beBytes 4 (crc body).toNat ++ beBytes 4 nativeCrc.toNat

/-- A data block for a cartridge (R122): the pass tag, extent index, label and generation are those at the moment the block is built. -/
def dataHeader (c : Cart) (r : SetRec) (b : CodedBlock) : Header :=
  { kind := 2, passTag := c.passTag, raw := b.raw, endOfSet := false, truncated := false, continues := false, cont := b.stamp.cont, dict := r.dict,
    set := r.id, extent := r.extents.length - 1, ends := b.ends.length, block := b.stamp.block, native := b.native, coded := b.coded,
    record := b.stamp.record, recordsBefore := b.stamp.record, label := c.label, generation := c.generation, dictGen := r.dictGen, day := r.writtenDay,
    before := b.stamp.before }

def dataBlock (c : Cart) (r : SetRec) (b : CodedBlock) : List Byte := blockBytes (dataHeader c r b) b.ends b.payload b.nativeCrc

/-- The volume block's payload (R123): label, class (1 S, 2 L), generation. -/
def volumePayload (c : Cart) : List Byte :=
  padLabel c.label ++ byteOf (match classOf c.label with | .s => 1 | .l => 2 | .unsupported => 0) ++ wordOf c.generation

def volumeBlock (c : Cart) : List Byte :=
  let p := volumePayload c
  blockBytes { kind := 1, passTag := c.passTag, raw := false, endOfSet := false, truncated := false, continues := false, cont := false, dict := 0, set := 0,
               extent := 0, ends := 0, block := 0, native := 0, coded := p.length, record := 0, recordsBefore := 0, label := c.label,
               generation := c.generation, dictGen := 0, day := 0, before := 0 } [] p (crc [])

/-- The summary block's payload: the set's record as it stands (R123). -/
def summaryPayload (r : SetRec) : List Byte :=
  wordOf r.id ++ byteOf (match r.owner with | .a => 1 | .b => 2) ++ wordOf r.writtenDay ++ wordOf r.retention ++ byteOf r.dict ++ byteOf r.dictGen
    ++ beBytes 4 r.blocks ++ beBytes 4 r.records ++ beBytes 8 r.native ++ beBytes 8 r.coded ++ byteOf r.extents.length
    ++ r.extents.flatMap fun x => padLabel x.label ++ beBytes 4 x.firstPos ++ beBytes 4 x.firstBlock ++ beBytes 4 x.count

def summaryBlock (c : Cart) (r : SetRec) (f : SummaryFlag) : List Byte :=
  let p := summaryPayload r
  blockBytes { kind := 3, passTag := c.passTag, raw := false, endOfSet := f = .closed, truncated := f = .truncated, continues := f = .continues,
               cont := false, dict := r.dict, set := r.id, extent := r.extents.length - 1, ends := 0, block := r.blocks, native := 0, coded := p.length,
               record := r.records, recordsBefore := r.records, label := c.label, generation := c.generation, dictGen := r.dictGen,
               day := r.writtenDay, before := r.native } [] p (crc [])

/-! ## Reading (R124) -/

/-- What the Formatter makes of a read (R124). -/
inductive ReadResult
  | noBlock
  | unreadable
  | malformed
  | crcBad (b : TapeBlock)
  | good (b : TapeBlock)
  deriving DecidableEq, Repr

/-- The number in `n` bytes at an offset. -/
def numAt (bs : List Byte) (off n : Nat) : Nat := beNat ((bs.drop off).take n)

/-- The header's fields, read at their offsets. -/
def readHeader (bs : List Byte) : Header :=
  let fl := numAt bs 2 1
  { kind := numAt bs 0 1, passTag := numAt bs 1 1, raw := fl.testBit 0, endOfSet := fl.testBit 1, truncated := fl.testBit 2, continues := fl.testBit 3,
    cont := fl.testBit 4, dict := numAt bs 3 1, set := numAt bs 4 2, extent := numAt bs 6 1, ends := numAt bs 7 1, block := numAt bs 8 4,
    native := numAt bs 12 4, coded := numAt bs 16 4, record := numAt bs 20 4, recordsBefore := numAt bs 24 4, label := (bs.drop 28).take 8,
    generation := numAt bs 36 2, dictGen := numAt bs 38 1, day := numAt bs 40 2, before := numAt bs 42 4 }

/-- The record-end offsets of a list on tape. -/
def readEnds (bs : List Byte) : Nat → List Nat
  | 0 => []
  | n + 1 => (beNat (bs.take 2) + 1) :: readEnds (bs.drop 2) n

/-- A well-formed block (R124): its length fits its fields, its kind is 1, 2 or 3, its zero fields are zero, a data block's native length is in range and its two record
fields agree. -/
def wellFormedBlock (bs : List Byte) : Bool :=
  let h := readHeader bs
  56 ≤ bs.length && bs.length = Config.blockOverhead + 2 * h.ends + h.coded && 1 ≤ h.kind && h.kind ≤ 3 && numAt bs 2 1 < 32
    && numAt bs 39 1 = 0 && numAt bs 46 2 = 0
    && (h.kind ≠ 2 || (1 ≤ h.native && h.native ≤ Config.bankBytes && h.record = h.recordsBefore))

/-- A block's parts. -/
def readBlock (bs : List Byte) : TapeBlock :=
  let h := readHeader bs
  { hdr := h, ends := readEnds (bs.drop 48) h.ends, payload := (bs.drop (48 + 2 * h.ends)).take h.coded,
    blockCrc := BitVec.ofNat 32 (numAt bs (48 + 2 * h.ends + h.coded) 4), nativeCrc := BitVec.ofNat 32 (numAt bs (52 + 2 * h.ends + h.coded) 4) }

/-- The Formatter's check of a block a transport returns (R124). -/
def checkBlock (bs : List Byte) : ReadResult :=
  if wellFormedBlock bs then
    if crc (bs.take (bs.length - 8)) = (readBlock bs).blockCrc then .good (readBlock bs) else .crcBad (readBlock bs)
  else .malformed

/-- A GOOD block belongs to the mounted cartridge when label, generation and pass tag are its record's (R124). -/
def Header.belongs (h : Header) (c : Cart) : Bool := h.label = c.label && h.generation = c.generation && h.passTag = c.passTag

/-- The volume check (R124): kind 1, belonging to the cartridge, and the label and generation of its payload the record's. -/
def volumeCheck (c : Cart) (r : ReadResult) : Bool :=
  match r with
  | .good b => b.hdr.kind = 1 && b.hdr.belongs c && b.payload.take 8 = c.label && numAt b.payload 9 2 = c.generation
  | _ => false

/-- The append check (R124): at end-of-data − 1, the summary block of the last set of the set list, or the volume block when the list is empty. -/
def appendCheck (c : Cart) (r : ReadResult) : Bool :=
  match c.sets.getLast? with
  | none => volumeCheck c r
  | some id =>
    match r with
    | .good b => b.hdr.kind = 3 && b.hdr.belongs c && b.hdr.set = id
    | _ => false

/-- The resume check (R119, R124): this set's last data block; when the current extent has no block yet, what the opening or span check expected there: the set
standing before this one in the list, or the volume block. -/
def resumeCheck (c : Cart) (x : SetRec) (r : ReadResult) : Bool :=
  match x.extents.getLast? with
  | some e =>
    if e.count = 0 then appendCheck { c with sets := c.sets.filter (· ≠ x.id) } r
    else
      match r with
      | .good b => b.hdr.kind = 2 && b.hdr.belongs c && b.hdr.set = x.id && b.hdr.block + 1 = x.blocks
      | _ => false
  | none => false

/-! ## Cost and accounting (R131, R132) -/

/-- The cost of a block with this coded length and number of record ends (R131). -/
def blockCost (coded ends : Nat) : Nat := (coded + Config.blockOverhead + 2 * ends + (Config.tapeFrame - 1)) / Config.tapeFrame

def CodedBlock.cost (b : CodedBlock) : Nat := blockCost b.coded b.ends.length

/-- The accounting test (R131): the block does not fit and a span is ordered. -/
def Cart.mustSpan (c : Cart) (cost : Nat) : Bool := (classOf c.label).capacity - Config.reservedFrames < c.frames + cost

/-- The law of writing for data and summary blocks, and for the volume block (R130): home slot not protected, tab not SET, class not UNSUPPORTED, state OPEN, or
BLANK or SCRATCH for the volume block. -/
def Ctl.mayWrite (s : Ctl) (c : Cart) (en : Option Entry) (volume : Bool) : Bool :=
  !s.entryProtected en && (match en with | some e => e.tab ≠ .set | none => true) && classOf c.label ≠ .unsupported
    && (if volume then c.state = .blank || c.state = .scratch else c.state = .opened)

/-- A volume block has been written on a BLANK or SCRATCH cartridge (R61, R132). -/
def Cart.volumeWritten (c : Cart) : Cart := if c.state = .blank ∨ c.state = .scratch then { c with frames := 1, eod := 1, state := .opened } else c

/-- A data block has been written (R132). -/
def Cart.dataWritten (c : Cart) (b : CodedBlock) : Cart :=
  { c with frames := c.frames + b.cost, eod := c.eod + 1, native := c.native + b.native, coded := c.coded + b.coded }

/-- A summary block has been written (R132). -/
def Cart.summaryWritten (c : Cart) : Cart := { c with frames := c.frames + 1, eod := c.eod + 1 }

/-- Early warning after a write (R132): the flag, and whether it has just come on. -/
def Cart.warningDue (c : Cart) : Bool := !c.early && (classOf c.label).warning < c.frames

/-- After a block has been written: early-warning passed becomes yes when due, and EARLY_WARNING goes to the owner of the set (R132). -/
def Ctl.judgeWarning (s : Ctl) (l : Label) (set : Nat) (owner : Link) : Ctl :=
  match s.cat.cart? l with
  | some c => if c.warningDue then (s.modCart l fun c => { c with early := true }).notifyLink owner (.earlyWarning set l) else s
  | none => s

/-! ## A summary payload read back (R173) -/

def readExtents (bs : List Byte) : Nat → List Extent
  | 0 => []
  | n + 1 => { label := bs.take 8, firstPos := numAt bs 8 4, firstBlock := numAt bs 12 4, count := numAt bs 16 4 } :: readExtents (bs.drop 20) n

/-- The set record a summary block carries (R123, R173): CLOSED stays CLOSED, TRUNCATED or CONTINUES becomes TRUNCATED; the verify fields start afresh and the
index points with block 0. -/
def readSummary (b : TapeBlock) : SetRec :=
  let p := b.payload
  let xs := readExtents (p.drop 34) (numAt p 33 1)
  { id := numAt p 0 2, owner := if numAt p 2 1 = 2 then .b else .a, state := if b.hdr.endOfSet then .closed else .truncated, writtenDay := numAt p 3 2,
    retention := numAt p 5 2, dict := numAt p 7 1, dictGen := numAt p 8 1, extents := xs, blocks := (xs.map (·.count)).sum, records := numAt p 13 4,
    native := numAt p 17 8, coded := numAt p 25 8, index := [{ block := 0, record := 0, cont := false }], interval := Config.firstInterval,
    verify := .never, passes := 0, bad := 0, badList := [], badMore := false }

/-- R67 applied to a noted data header of a rebuilt set: a header whose block number is not above the last entry's, or whose record number is below it, is passed over. -/
def SetRec.noteIndex (r : SetRec) (n : Note) : SetRec :=
  match r.index.getLast? with
  | some p => if n.set = r.id ∧ p.block < n.block ∧ p.record ≤ n.record then r.addIndex n.block n.record n.cont else r
  | none => r

end Sys2Proof.Machine
end

