-- ==== Sys2Proof/Machine/Transport.lean ====
section
/-! DEFINITION. Transport ports (7.3): sending an order, what a report leaves, and the SUSPECT mark of a media fault (R125 to R129). -/

namespace Sys2Proof

/-- A tab report as the entry holds it (R2). -/
def TabReport.tab : TabReport → Machine.Tab
  | .set => .set
  | .clear => .clear

end Sys2Proof

namespace Sys2Proof.Machine

/-- The port's report that its transport holds a cartridge (R23, R40). -/
def Ctl.setPresent (s : Ctl) (c : Chan) (b : Bool) : Ctl := s.setTr c { s.tr c with present := b }

/-- A THREAD reaches a transport (R126, R129). An order a state does not take is recorded, and answered FAULT by `Ctl.answerRefusals` before the command ends. -/
def Transport.thread (t : Transport) (full : Bool) (k : Task) : Transport :=
  if t.order.isSome then { t with rejected := some k }
  else
    match t.state with
    | .empty => if full then { t with state := .threading, order := some { kind := .thread, task := k } } else { t with rejected := some k }
    | .ejected => { t with state := .threading, order := some { kind := .thread, task := k } }
    | .mounted => { t with order := some { kind := .thread, task := k } }
    | _ => { t with rejected := some k }

/-- A LOCATE, READ_BLOCK or WRITE_BLOCK reaches a transport: it is taken in MOUNTED, with no order outstanding (R127, R129). -/
def Transport.work (t : Transport) (kind : TOrderKind) (busy : TransportState) (k : Task) : Transport :=
  if t.state = .mounted ∧ t.order = none then { t with state := busy, order := some { kind := kind, task := k } } else { t with rejected := some k }

def Ctl.thread (s : Ctl) (c : Chan) (k : Task) : Ctl := s.setTr c ((s.tr c).thread ((s.elem (.transport c)).occ = .full) k)

def Ctl.locate (s : Ctl) (c : Chan) (pos : Nat) (k : Task) : Ctl := s.setTr c ((s.tr c).work (.locate pos) .moving k)

def Ctl.readBlock (s : Ctl) (c : Chan) (k : Task) : Ctl := s.setTr c ((s.tr c).work .read .reading k)

def Ctl.writeBlock (s : Ctl) (c : Chan) (bytes : List Byte) (k : Task) : Ctl := s.setTr c ((s.tr c).work (.write bytes) .writing k)

/-- A block is read at a position: the transport is located there first when it stands elsewhere. -/
def Ctl.readAt (s : Ctl) (c : Chan) (pos : Nat) (locate read : Task) : Ctl :=
  if (s.tr c).pos = pos then s.readBlock c read else s.locate c pos locate

/-- An activity's cartridge stands in the transport already: it is threaded again, or read from position 0 where it is MOUNTED. DEDUCED (log 52): while another order of the transport is
outstanding the activity sends none of its own and waits for that order's report. -/
def Ctl.bringIn (s : Ctl) (c : Chan) (thread locate read : Task) : Ctl :=
  if (s.tr c).order.isSome then s else if (s.tr c).state = .mounted then s.readAt c 0 locate read else s.thread c thread

/-- The state in which a report of LOCATE, READ_BLOCK or WRITE_BLOCK, or a failed EJECT, leaves a transport (R127, R128): MOUNTED. DEDUCED (logs 61, 71): one that is not carrying out the
order, because its cartridge has been fetched meanwhile or had never been threaded, keeps its state (R34, R125). -/
def TransportState.returned : TransportState → TransportState
  | .moving => .mounted
  | .reading => .mounted
  | .writing => .mounted
  | .ejecting => .mounted
  | st => st

/-- The report of the outstanding order has arrived: the transport returns to `st` at position `pos`, with no order outstanding. -/
def Transport.reported (t : Transport) (st : TransportState) (pos : Nat) : Transport := { t with state := st, pos := pos, order := none }

/-- The outstanding orders of an ended activity run to their reports, which are dropped (R116, R148, R165). A volume block being written keeps its task,
because its BLOCK_WRITTEN changes the cartridge's record whoever ordered it (R61). -/
def Task.orphan : Task → Task
  | .sVolWrite => .sVolWrite
  | .eject => .eject
  | .plainThread => .plainThread
  | _ => .dropped

def Transport.orphan (t : Transport) : Transport :=
  { t with rejected := t.rejected.map Task.orphan, order := t.order.map fun o => { o with task := o.task.orphan } }

/-- An activity's order is outstanding at the transport (an EJECT and a requester's THREAD are none's). -/
def Task.ofActivity : Task → Bool
  | .eject => false
  | .plainThread => false
  | _ => true

def Transport.activityOrder (t : Transport) : Bool :=
  (t.rejected.map Task.ofActivity).getD false || (t.order.map fun o => o.task.ofActivity).getD false

/-- A MEDIA_FAULT makes the cartridge in a transport SUSPECT, when it is catalogued (R61, R128). -/
def Ctl.markSuspect (s : Ctl) (c : Chan) : Ctl :=
  match s.labelHeld c with
  | some l => s.setCartState l .suspect
  | none => s

/-- The cartridge in a transport becomes UNKNOWN (R61). -/
def Ctl.markUnknown (s : Ctl) (c : Chan) : Ctl :=
  match s.labelHeld c with
  | some l => s.setCartState l .unknown
  | none => s

/-- The record of the cartridge in a transport. -/
def Ctl.cartIn (s : Ctl) (c : Chan) : Option Cart := (s.labelHeld c).bind s.cat.cart?

/-- The transport enters FAULTED: every requester is told (R128). -/
def Ctl.transportFaulted (s : Ctl) (c : Chan) : Ctl :=
  let t := s.tr c
  let s1 := s.setTr c { t with state := .faulted, order := none }
  if t.state = .faulted then s1 else s1.notifyAll (.transport c .faulted)

end Sys2Proof.Machine
end

