-- ==== Sys2Proof/Machine/Queue.lean ====
section
/-! DEFINITION. The Move Queue (2.1 to 2.3): which magazines an order touches, when it is deferred, how orders and held offers enter and leave, and the
orders the blocks raise for their activities (R25 to R30). -/

namespace Sys2Proof.Machine

/-! ## What an order touches (R13, R25) -/

def Picker.running (p : Picker) : Option Order := p.queue.find? fun o => o.state = .running

/-- The element the cartridge now being carried is going to. -/
def Phase.dest : Phase → Option Element
  | .fetching d => some d
  | .putting d => some d
  | .scanGripPut d => some d
  | .homePutBack d => some d
  | _ => none

def OrderSource.element? : OrderSource → Option Element
  | .element e => some e
  | _ => Option.none

def OrderDest.element? : OrderDest → Option Element
  | .element e => some e
  | _ => Option.none

/-- The entry of the cartridge an order moves: in the gripper once a RUNNING order has fetched it. -/
def Ctl.orderEntry (s : Ctl) (o : Order) : Option Entry :=
  let gripped : Bool := match s.picker.phase with
    | .putting _ => true
    | .puttingBack => true
    | _ => false
  if o.state = .running ∧ gripped = true then (s.elem .gripper).entry
  else o.source.element?.bind fun e => (s.elem e).entry

/-- The home slot of the cartridge of an UNLOAD to HOME, which that order names (R6, R13). -/
def Ctl.homeNamed (s : Ctl) (o : Order) : Option Element :=
  if o.kind = .unload ∧ o.dest = .home then ((s.orderEntry o).bind (·.home)).map .slot else none

/-- The elements an order names (R6, R13), and for the RUNNING order the place its cartridge is being taken to. -/
def Ctl.named (s : Ctl) (o : Order) : List Element :=
  o.source.element?.toList ++ o.dest.element?.toList ++ (s.homeNamed o).toList
    ++ (if o.state = .running then s.picker.phase.dest.toList else [])

/-- An order touches a magazine (R13): SCAN_ALL both, an AUDIT its own. -/
def Ctl.touches (s : Ctl) (o : Order) (m : Mag) : Bool :=
  match o.kind with
  | .scanAll => true
  | .audit => o.source = .magazine m
  | _ => (s.named o).any fun e => e.mag = some m

/-- It touches a magazine whose door is not LOCKED. -/
def Ctl.touchesOpenDoor (s : Ctl) (o : Order) : Bool :=
  (s.touches o .l && (s.door .l).state ≠ .locked) || (s.touches o .r && (s.door .r).state ≠ .locked)

/-! ## Deferral (R29) -/

/-- The transport a LOAD goes to. -/
def Order.destTransport (o : Order) : Option Chan :=
  match o.dest with
  | .element (.transport c) => some c
  | _ => none

/-- The transport an UNLOAD comes from. -/
def Order.sourceTransport (o : Order) : Option Chan :=
  match o.source with
  | .element (.transport c) => some c
  | _ => none

/-- A LOAD waits for the hold, for its cartridge to acclimate, and for its transport to be empty. -/
def Ctl.loadDeferred (s : Ctl) (o : Order) : Bool :=
  s.climate.hold
    || (match (o.source.element?.bind fun e => (s.elem e).entry) with | some en => 0 < en.acclim | none => false)
    || (match o.destTransport with | some c => (s.elem (.transport c)).occ ≠ .empty || (s.tr c).state ≠ .empty | none => false)

/-- The picker stands IDLE with something, or something uncertain, in its gripper. -/
def Ctl.gripperTaken (s : Ctl) (o : Order) : Bool :=
  o.source ≠ .element .gripper && (s.elem .gripper).occ ≠ .empty && s.picker.state = .idle

/-- A LOAD to a FAULTED transport is not deferred; its start fails it (R29, R32). -/
def Ctl.loadToFaulted (s : Ctl) (o : Order) : Bool :=
  o.kind = .load && match o.destTransport with
    | some c => (s.tr c).state = .faulted
    | none => false

/-- A condition of R29 holds for an order that is neither RUNNING nor in EJECT_WAIT. -/
def Ctl.deferred (s : Ctl) (o : Order) : Bool :=
  match o.kind with
  | .scanAll => false
  | .audit => match o.source with
    | .magazine m => (s.door m).state = .asking || (s.door m).state = .unlocked || (s.door m).state = .opened
    | _ => false
  | .load => !s.loadToFaulted o && (s.loadDeferred o || s.touchesOpenDoor o || s.gripperTaken o)
  | _ => s.touchesOpenDoor o || s.gripperTaken o

/-- An order's state as READ_QUEUE shows it. -/
def Ctl.shownState (s : Ctl) (o : Order) : ShownState :=
  match o.state with
  | .running => .running
  | .ejectWait => .ejectWait
  | .ready => if s.deferred o then .deferred else .waiting

/-- The oldest WAITING order (R31). -/
def Ctl.oldestWaiting (s : Ctl) : Option Order := s.picker.queue.find? fun o => o.state = .ready && !s.deferred o

/-! ## Entering and leaving (R26, R30) -/

def Ctl.mapOrders (s : Ctl) (f : Order → Order) : Ctl := s.setPicker { s.picker with queue := s.picker.queue.map f }

/-- The next free order id (R26). -/
def Picker.freeId (p : Picker) : Nat := firstFree Config.lastId (p.queue.map (·.id)) (p.queue.length + 1) p.nextId

/-- The state an UNLOAD enters the queue in, once its EJECT has reached the transport in the state it finds (R30, R126, R129): `none` where the transport is FAULTED
and answers FAULT; in EJECTED alone no eject is waited for. -/
def Transport.ejectState (t : Transport) : Option OrderState :=
  match t.state with
  | .faulted => none
  | .ejected => some .ready
  | _ => some .ejectWait

def TOrder.eject : TOrder := { kind := .eject, task := .eject }

/-- The EJECT itself: sent in MOUNTED, and in EMPTY, where it is answered EJECTED and the state stays EMPTY; joined to one that is outstanding; held as the pending EJECT while
another order is. -/
def Transport.eject (t : Transport) : Transport :=
  match t.state with
  | .mounted => if t.order = none then { t with state := .ejecting, order := some .eject } else { t with pendingEject := true }
  | .empty => if t.order = none then { t with order := some .eject } else if t.order = some .eject then t else { t with pendingEject := true }
  | .threading => { t with pendingEject := true }
  | .moving => { t with pendingEject := true }
  | .reading => { t with pendingEject := true }
  | .writing => { t with pendingEject := true }
  | _ => t

def Ctl.pushOrder (s : Ctl) (o : Order) (st : OrderState) : Ctl :=
  let id := s.picker.freeId
  s.setPicker { s.picker with queue := s.picker.queue ++ [{ o with id := id, state := st }], nextId := wrapNext Config.lastId id }

/-- An order enters a queue that has room. An UNLOAD orders its eject; at a FAULTED transport it fails with WRONG_STATE (R30). -/
def Ctl.enter (s : Ctl) (o : Order) : Ctl :=
  match o.kind, o.sourceTransport with
  | .unload, some c =>
    match (s.tr c).ejectState with
    | some st => (s.setTr c (s.tr c).eject).pushOrder o st
    | none =>
      let id := s.picker.freeId
      (s.setPicker { s.picker with nextId := wrapNext Config.lastId id }).notifyOpt o.requester (.moveFailed id .wrongState)
  | _, _ => s.pushOrder o .ready

/-- Held offers enter the freed places, the oldest first (R26). -/
def Ctl.admitFrom : Nat → Ctl → Ctl
  | 0, s => s
  | n + 1, s =>
    match s.picker.held with
    | [] => s
    | o :: rest =>
      if s.picker.queue.length < Config.moveQueueRoom then admitFrom n ((s.setPicker { s.picker with held := rest }).enter o) else s

def Ctl.admitHeld (s : Ctl) : Ctl := s.admitFrom s.picker.held.length

/-- A block raises an internal order: it enters, or is held as an offer (R26). DESIGN CHOICE (log 45): the rule gives room for 32 offers; one raised beyond them is lost. -/
def Ctl.raiseOrder (s : Ctl) (o : Order) : Ctl :=
  if s.picker.queue.length < Config.moveQueueRoom then s.enter o
  else if s.picker.held.length < Config.heldOfferRoom then s.setPicker { s.picker with held := s.picker.held ++ [o] }
  else s

/-- An order leaves the queue, and the oldest held offer takes its place. -/
def Ctl.leave (s : Ctl) (id : Nat) : Ctl := (s.setPicker { s.picker with queue := s.picker.queue.filter fun o => o.id ≠ id }).admitHeld

/-- The orders that meet `p` and are not RUNNING leave the queue, and the held offers that meet it are struck. DESIGN CHOICE (log 67): they are struck before the departures admit
held offers, so that none of them enters (R26, R44). -/
def Ctl.withdraw (s : Ctl) (p : Order → Bool) : Ctl :=
  (s.setPicker { s.picker with queue := s.picker.queue.filter fun o => o.state = .running || !p o,
                               held := s.picker.held.filter fun o => !p o }).admitHeld

/-- An activity that has ended is told of its orders no more. A RUNNING LOAD of it raises an UNLOAD HOME when it completes where `unload` says so
(R116, R151, R165). -/
def Ctl.disown (s : Ctl) (by' : Raiser) (unload : Bool) : Ctl :=
  let f := fun o : Order =>
    if o.raisedBy = some by' then { o with raisedBy := none, unloadAfter := decide (unload = true ∧ o.state = .running ∧ o.kind = .load) } else o
  s.setPicker { s.picker with queue := s.picker.queue.map f, held := s.picker.held.map f }

/-- A RUNNING LOAD of an ended activity is still bringing a cartridge to the transport. -/
def Ctl.orphanLoad (s : Ctl) (c : Chan) : Bool :=
  match s.picker.running with
  | some o => o.kind = .load && o.internal && o.raisedBy = none && o.destTransport = some c
  | none => false

/-! ## The orders activities raise (R28) -/

/-- An UNLOAD HOME of the transport's cartridge stands in the queue, or is held as an offer, that stays there as long as one the block would raise itself: internal, on behalf of the
same requester or of none, and its own or no activity's (log 14). -/
def Ctl.unloadRaised (s : Ctl) (c : Chan) (p : Option Requester) (by' : Option Raiser) : Bool :=
  (s.picker.queue ++ s.picker.held).any fun o =>
    o.kind = .unload && o.sourceTransport = some c && o.internal && o.dest = .home && (o.requester = p || o.requester = none)
      && (o.raisedBy = by' || o.raisedBy = none || o.raisedBy = some .inventory)

def Order.blank : Order :=
  { id := 0, requester := none, internal := true, raisedBy := none, kind := .move, source := .none, dest := .none, purpose := .none, wanted := none,
    state := .ready, retry := 0, role := .plain, unloadAfter := false }

/-- An UNLOAD HOME of a transport's cartridge, with the label of its entry, where it has one, as the label expected (R25, log 77). -/
def Ctl.homeOrder (s : Ctl) (c : Chan) (p : Option Requester) (by' : Option Raiser) (role : OrderRole) : Order :=
  { Order.blank with requester := p, raisedBy := by', kind := .unload, source := .element (.transport c), dest := .home, wanted := s.labelAt (.transport c),
                     role := role }

/-- UNLOAD HOME of whatever stands in a transport, unless one has been raised already. At a FAULTED transport it fails as R30 states. -/
def Ctl.raiseHome (s : Ctl) (c : Chan) (p : Option Requester) (by' : Option Raiser) : Ctl :=
  if (s.elem (.transport c)).occ = .full ∧ s.unloadRaised c p by' = false then s.raiseOrder (s.homeOrder c p by' .plain) else s

/-- UNLOAD HOME of whatever stands in a transport that is not FAULTED, unless one has been raised already. -/
def Ctl.unloadHome (s : Ctl) (c : Chan) (p : Option Requester) (by' : Option Raiser) : Ctl :=
  if (s.tr c).state = .faulted then s else s.raiseHome c p by'

/-- Where a LOAD of a cartridge starts: the slot, or M, where it stands when the order is raised. DEDUCED: for one that an UNLOAD HOME is still taking out of a
transport it is the home slot that UNLOAD leads to. -/
def Ctl.loadSource (s : Ctl) (l : Label) : OrderSource :=
  match s.findLabel l with
  | some (.slot i) => .element (.slot i)
  | some .mail => .element .mail
  | some e => match (s.elem e).entry.bind (·.home) with
    | some h => .element (.slot h)
    | none => .none
  | none => match (s.cat.cart? l).bind (·.loc) with
    | some (.slot i) => .element (.slot i)
    | some .mail => .element .mail
    | _ => .none

/-- The cartridge in the transport is the one of the channel's session, which another activity has displaced (R160, R164). -/
def Ctl.heldForSession (s : Ctl) (c : Chan) (by' : Raiser) : Bool :=
  by' ≠ .chan c && match s.session c, s.labelIn c with
    | some x, some l => s.sessionUses x l
    | _, _ => false

/-- Before a LOAD, the UNLOAD HOME of a cartridge no activity uses that stands in the transport (R28). At a FAULTED one it fails as R30 states. -/
def Ctl.clearTransport (s : Ctl) (c : Chan) (p : Requester) (by' : Raiser) : Ctl :=
  if s.heldForSession c by' then s else s.raiseHome c (some p) (some by')

/-- A channel's activity raises the LOAD of a cartridge to its transport, which is cleared first (R28). -/
def Ctl.raiseLoad (s : Ctl) (c : Chan) (l : Label) (p : Requester) (by' : Raiser) (purpose : Purpose) : Ctl :=
  let s1 := s.clearTransport c p by'
  s1.raiseOrder { Order.blank with requester := some p, raisedBy := some by', kind := .load, source := s1.loadSource l, dest := .element (.transport c),
                                   purpose := purpose, wanted := some l }

/-! ## A pending EJECT (R129) -/

/-- The UNLOADs waiting for a transport's eject leave EJECT_WAIT. -/
def Ctl.ejectReady (s : Ctl) (c : Chan) : Ctl :=
  s.mapOrders fun o => if o.state = .ejectWait ∧ o.sourceTransport = some c then { o with state := .ready } else o

/-- They fail with WRONG_STATE, the oldest first, and leave the queue (R30). `fuel` is the number of orders. -/
def Ctl.failEjectWait (c : Chan) : Nat → Ctl → Ctl
  | 0, s => s
  | n + 1, s =>
    match s.picker.queue.find? fun o => o.state = .ejectWait && o.sourceTransport = some c with
    | some o => failEjectWait c n ((s.leave o.id).notifyOpt o.requester (.moveFailed o.id .wrongState))
    | none => s

def Ctl.ejectFailed (s : Ctl) (c : Chan) : Ctl := s.failEjectWait c s.picker.queue.length

/-- Once the outstanding order has been reported, the pending EJECT is sent and taken by the state it finds (R129). -/
def Ctl.sendPendingEject (s : Ctl) (c : Chan) : Ctl :=
  let t := s.tr c
  if t.pendingEject then
    let s1 := s.setTr c { t with pendingEject := false }
    match t.ejectState with
    | none => s1.ejectFailed c
    | some .ready => s1.ejectReady c
    | some _ => s1.setTr c (s1.tr c).eject
  else s

/-- The outstanding order's report leaves the transport in `st` at `pos`, and a pending EJECT is sent. -/
def Ctl.transportReported (s : Ctl) (c : Chan) (st : TransportState) (pos : Nat) : Ctl := (s.setTr c ((s.tr c).reported st pos)).sendPendingEject c

end Sys2Proof.Machine
end

