-- ==== Sys2Proof/Machine/Claim.lean ====
section
/-! DEFINITION. Restore contexts as the other blocks reach them, and the moment a restore's claim on a channel is complete (R158, R160). -/

namespace Sys2Proof.Machine

def Ctl.modRestores (s : Ctl) (f : RestoreCtx → RestoreCtx) : Ctl := s.setRestore { s.restore with running := s.restore.running.map f }

def Ctl.modRestore (s : Ctl) (id : Nat) (f : RestoreCtx → RestoreCtx) : Ctl := s.modRestores fun r => if r.id = id then f r else r

/-- A restore that has left the queue. -/
def Ctl.restore? (s : Ctl) (id : Nat) : Option RestoreCtx := s.restore.running.find? fun r => r.id = id

/-- The restore that holds a channel: its claim is complete. -/
def Ctl.restoreOn (s : Ctl) (c : Chan) : Option RestoreCtx := s.restore.running.find? fun r => r.chan = some c && r.state ≠ .claiming

/-- The cartridge a restore reads, or is about to read. -/
def Ctl.restoreLabel (s : Ctl) (r : RestoreCtx) : Option Label := s.extentLabel r.set r.extent

/-- The restore brings its cartridge into its channel's transport (R160): no LOAD for one already there. -/
def Ctl.restoreLoad (s : Ctl) (c : Chan) (r : RestoreCtx) : Ctl :=
  match s.restoreLabel r with
  | some l =>
    if s.labelIn c = some l then
      s.bringIn c .rThread .rVolLocate .rVolRead
    else s.raiseLoad c l (.link r.requester) (.restoreUnit c) .restore
  | none => s

/-- A restore's LOAD waits for a cartridge that stands in its transport, and no UNLOAD HOME of it is on its way: the restore raises one (R28). -/
def Ctl.restoreClears (s : Ctl) (c : Chan) : Ctl :=
  match s.restoreOn c with
  | some r =>
    if (s.picker.queue ++ s.picker.held).any fun o => o.kind = .load && o.raisedBy = some (.restoreUnit c) then
      s.unloadHome c (some (.link r.requester)) (some (.restoreUnit c))
    else s
  | none => s

/-- The claim is complete: the channel takes mode RESTORE, RESTORE_STARTED is sent and the restore enters LOADING (R158). -/
def Ctl.restoreBegin (s : Ctl) (c : Chan) (id : Nat) : Ctl :=
  let s1 := s.setChan c { s.chan c with mode := .restore, claim := none }
  match s1.restore? id with
  | some r =>
    let r' := { r with state := .loading, chan := some c }
    ((s1.modRestore id fun _ => r').notifyLink r.requester (.restoreStarted r.id r.set c)).restoreLoad c r'
  | none => s1.setChan c { s1.chan c with mode := .idle }

end Sys2Proof.Machine
end

