-- ==== Sys2Proof/Machine/Session.lean ====
section
/-! DEFINITION. Write sessions and staging banks (chapter 6), with the span of chapter 7: the stamp and the closing of a bank, grants, the POOL choice, loading and
checking a cartridge, coding and writing, sync, suspension, close, abort and resume. -/

namespace Sys2Proof.Machine

def bankIxs : List BankIx := [.b0, .b1]

def Ctl.modSession (s : Ctl) (c : Chan) (f : Session → Session) : Ctl :=
  match s.session c with
  | some x => s.setSession c (f x)
  | none => s

def Session.req (x : Session) : Requester := .link x.owner

/-- The set record of a session. -/
def Ctl.sessionSet (s : Ctl) (x : Session) : Option SetRec := s.cat.set? x.setId

/-- The session's set is WRITING: its first extent has been added, so a load it waits for is a span's. -/
def Ctl.setWriting (s : Ctl) (x : Session) : Bool := (s.sessionSet x).map (·.state) = some .writing

/-- The record of the session's chosen cartridge. -/
def Ctl.chosenCart (s : Ctl) (x : Session) : Option Cart := x.chosen.bind s.cat.cart?

/-! ## Banks (R103 to R105) -/

/-- The bank that is FILLING, if one is. -/
def Channel.filling (ch : Channel) : Option BankIx := bankIxs.find? fun i => (ch.bank i).state = .filling

/-- Some bank is in one of the states. -/
def Channel.anyBank (ch : Channel) (p : BankState → Bool) : Bool := bankIxs.any fun i => p (ch.bank i).state

/-- The stamp of a bank that closes now (R105). -/
def Session.stamp (x : Session) : Stamp :=
  { block := x.banksClosed, record := x.endsBefore, cont := decide (0 < x.banksClosed) && !x.endedOnRecord, before := x.bytesBefore }

/-- The counts the stamps are taken from, after a bank has closed. -/
def Session.counted (x : Session) (b : Bank) : Session :=
  { x with banksClosed := x.banksClosed + 1, endsBefore := x.endsBefore + b.ends.length, bytesBefore := (x.bytesBefore + b.bytes.length) % 2 ^ 32,
           endedOnRecord := b.ends.getLast? = some b.bytes.length }

/-- A FILLING bank closes and is stamped (R105). -/
def Ctl.closeBank (s : Ctl) (c : Chan) (i : BankIx) : Ctl :=
  match s.session c with
  | some x =>
    let b := (s.chan c).bank i
    (s.setBank c i { b with state := .closed, stamp := some x.stamp }).setSession c (x.counted b)
  | none => s

/-- Some bytes the expander has written stand in a bank (R103): they are none of a session's. -/
def Bank.output (b : Bank) (out : List Byte) : Bank := { Bank.empty with state := if b.state = .lent then .lent else .empty, bytes := out }

/-- The expander starts on a block, with the slot that block names (R81, R84). -/
def Ctl.startExpander (s : Ctl) (c : Chan) (b : TapeBlock) : Ctl := s.setChan c { s.chan c with expander := .expanding b (s.dicts.slot? b.hdr.dict) }

/-- The coded buffer once the restore's block has left it: lent to the restore still, or free. -/
def CodedBuf.emptied (b : CodedBuf) (lent : Bool) : CodedBuf :=
  match b with
  | .raw _ => if lent then .lent else .free
  | _ => b

/-- The expander returns to IDLE, and a block's raw bytes leave the coded buffer (R84, R161). -/
def Channel.stopExpander (ch : Channel) : Channel :=
  { ch with expander := .idle, buf := ch.buf.emptied (ch.session.any fun x => x.kept.isSome) }

def Ctl.stopExpander (s : Ctl) (c : Chan) : Ctl := s.setChan c (s.chan c).stopExpander

/-- The FILLING bank, if there is one, closes. -/
def Ctl.closeFilling (s : Ctl) (c : Chan) : Ctl :=
  match (s.chan c).filling with
  | some i => s.closeBank c i
  | none => s

/-! ## Grants (R106) -/

/-- The credits the grant test allows. -/
def Ctl.grantOf (s : Ctl) (c : Chan) : Nat :=
  match s.session c with
  | some x =>
    if (x.state = .streaming ∨ x.state = .spanning ∨ x.state = .resuming ∨ (x.state = .needCartridge ∧ s.setWriting x = true))
        ∧ (s.link x.owner).online = true ∧ x.closePending = false ∧ (s.chan c).anyBank (· = .empty) = true then
      Config.creditTarget - (s.chan c).credits
    else 0
  | none => 0

/-- The channel judges its grants: one CREDIT frame with the number allowed, if any (R106). -/
def Ctl.grant (s : Ctl) (c : Chan) : Ctl :=
  match s.session c with
  | some x =>
    let n := s.grantOf c
    if n = 0 then s
    else
      let s1 := s.setChan c { s.chan c with credits := (s.chan c).credits + n }
      s1.setLink x.owner ((s1.link x.owner).pushCredit c n)
  | none => s

/-- Credits outstanding become 0, and a CREDIT frame of the channel not yet sent is withdrawn (R115 to R117). -/
def Ctl.dropCredits (s : Ctl) (c : Chan) : Ctl :=
  match s.session c with
  | some x =>
    let s1 := s.setChan c { s.chan c with credits := 0 }
    s1.setLink x.owner { s1.link x.owner with creditFrames := (s1.link x.owner).creditFrames.filter fun f => f.1 ≠ c }
  | none => s

/-! ## Ending a session (R116, step 7) -/

/-- The labels that have been in the transport for the session. -/
def Ctl.sessionLabels (s : Ctl) (x : Session) : List Label :=
  x.chosen.toList ++ ((s.sessionSet x).bind (·.lastLabel)).toList ++ x.passed

/-- The channel is free for the activity that claimed it, or IDLE (R102, R158). -/
def Ctl.passChannel (s : Ctl) (c : Chan) : Ctl :=
  match (s.chan c).claim with
  | some (.restore id) => s.restoreBegin c id
  | _ => s.setChan c { s.chan c with mode := .idle }

/-- A bank that a session leaves: EMPTY, unless a restore has it on loan. -/
def Bank.released (b : Bank) : Bank := if b.state = .lent then b else .empty

def CodedBuf.released : CodedBuf → CodedBuf
  | .held _ => .free
  | b => b

/-- The session context is released, with the channel's banks, coder and coded buffer. -/
def Channel.withoutSession (ch : Channel) : Channel :=
  { ch with session := none, credits := 0, bank0 := ch.bank0.released, bank1 := ch.bank1.released, buf := ch.buf.released, coder := .idle }

/-- The end of a session (R116, step 7; R115, step 5): its cartridge is unloaded where `unload` says so, the context is released and the channel follows R102. A channel lent to a
restore stays with it; one whose transport still runs an order of the session waits for the report. DESIGN CHOICE (log 87): a session that ends while the verify it has asked to pause still
runs gives up its claim, and the pause is made all the same, as R158 states for a restore. -/
def Ctl.endSession (s : Ctl) (c : Chan) (unload : Bool) : Ctl :=
  match s.session c with
  | some x =>
    let s1 := s.dropCredits c
    match (s.chan c).mode with
    | .restore => (s1.setChan c (s1.chan c).withoutSession).disown (.chan c) unload
    | .verify => s1.setChan c { s1.chan c with session := none, claim := none }
    | _ =>
      let ours : Bool := unload && (match s.labelIn c with | some l => decide (l ∈ s.sessionLabels x) | none => false)
      let s2 := (s1.setChan c (s1.chan c).withoutSession).disown (.chan c) unload
      if (s2.tr c).activityOrder then
        let s3 := s2.setTr c (s2.tr c).orphan
        s3.setChan c { s3.chan c with drain := some { requester := x.req, unload := ours } }
      else (if ours then s2.unloadHome c (some x.req) none else s2).passChannel c
  | none => s

/-! ## Summary blocks (R115, R116, R122, R134) -/

/-- The summary block is sent, LOCATE first where the transport does not stand at the end-of-data (R121). -/
def Ctl.sendSummary (s : Ctl) (c : Chan) (k : Cart) (r : SetRec) (f : SummaryFlag) : Ctl :=
  if (s.tr c).pos = k.eod then s.writeBlock c (summaryBlock k r f) (.sSumWrite f) else s.locate c k.eod (.sSumLocate f)

/-- The summary block of a session on the cartridge of its set's last extent: `none` where the law of writing refuses it (R130). -/
def Ctl.trySummary (s : Ctl) (c : Chan) (f : SummaryFlag) : Option Ctl :=
  match s.session c with
  | some x =>
    match s.sessionSet x, s.cartIn c with
    | some r, some k => if s.mayWrite k (s.entryIn c) false then some (s.sendSummary c k r f) else none
    | _, _ => none
  | none => none

/-! ## Abort (R116) -/

/-- The set of an aborted session ends TRUNCATED, and the session ends (R116, steps 6 and 7). -/
def Ctl.finishAbort (s : Ctl) (c : Chan) (summary : Bool) : Ctl :=
  match s.session c with
  | some x =>
    let a := x.abort.getD { reason := .cancelled, noSummary := true, noUnload := false }
    let records := ((s.sessionSet x).map (·.records)).getD 0
    let last := (s.sessionSet x).bind (·.lastLabel)
    let s1 := s.modSet x.setId fun r => if r.state = .writing then { r with state := .truncated } else r
    let s2 := match summary, last with
      | true, some l => s1.modCart l Cart.fullIfDue
      | _, _ => s1
    (s2.autoCheckpoint.notify x.req (.sessionEnded x.setId .truncated a.reason records)).endSession c (!a.noUnload)
  | none => s

/-- The conditions of R116, step 5, apart from the law of writing. -/
def Ctl.summaryDue (s : Ctl) (c : Chan) (x : Session) (a : AbortInfo) : Bool :=
  !a.noSummary && !x.contWritten && (s.chan c).mode = .write && (s.tr c).state = .mounted
    && (match (s.sessionSet x).bind (·.lastLabel) with | some l => s.labelHeld c = some l | none => false)

/-- An abort goes on (R116, steps 4 to 7) once no block of the session is being written and no order of it is outstanding. -/
def Ctl.abortProceed (s : Ctl) (c : Chan) : Ctl :=
  match s.session c with
  | some x =>
    match x.state, x.abort with
    | .aborting, some a =>
      if (s.sessionSet x).map (·.state) = some .opening then
        ((s.putCat (s.cat.deleteSet x.setId)).notify x.req (.sessionEnded x.setId .deleted a.reason 0)).endSession c (!a.noUnload)
      else if (s.chan c).mode = .restore then s.finishAbort c false
      else if (s.chan c).anyBank (· = .writing) ∨ (s.tr c).activityOrder then s
      else if s.summaryDue c x a then
        match s.trySummary c .truncated with
        | some s1 => s1
        | none => s.finishAbort c false
      else s.finishAbort c false
    | _, _ => s
  | none => s

/-- A bank as an abort leaves it (R116, step 3): a WRITING bank stays until its write is answered. -/
def Bank.aborted (b : Bank) : Bank :=
  match b.state with
  | .writing => b
  | .lent => b
  | _ => .empty

/-- The channel as an abort leaves it: the coder is abandoned, and the coded buffer freed unless a WRITING bank's block or a restore has it. -/
def Channel.aborted (ch : Channel) : Channel :=
  { ch with bank0 := ch.bank0.aborted, bank1 := ch.bank1.aborted, coder := .idle,
            buf := if ch.anyBank (· = .writing) then ch.buf else ch.buf.released }

/-- A session is aborted (R116). One still waiting for a verify to pause has nothing but its set record. Where the restore that displaced it waits for a cartridge whose UNLOAD goes
with the session's orders, it raises its own (R28, R118). -/
def Ctl.abort (s : Ctl) (c : Chan) (reason : Code) (noSummary noUnload : Bool) : Ctl :=
  match s.session c with
  | some x =>
    if x.state = .aborting then s
    else
      let s1 := s.dropCredits c
      let s2 := s1.setSession c { x with state := .aborting, needTimer := false, syncPending := false,
                                         abort := some { reason := reason, noSummary := noSummary, noUnload := noUnload } }
      let s3 := (s2.withdraw fun o => o.raisedBy = some (.chan c)).disown (.chan c) (!noUnload)
      ((s3.setChan c (s3.chan c).aborted).abortProceed c).restoreClears c
  | none => s

/-- Every session is aborted; cartridges stay in their transports (R116, R120). -/
def Ctl.sessionsReset (s : Ctl) : Ctl := (s.abort .c0 .reset false true).abort .c1 .reset false true

/-- Some session is still ABORTING. -/
def Ctl.aborting (s : Ctl) : Bool := [Chan.c0, Chan.c1].any fun c => (s.session c).any fun x => decide (x.state = .aborting)

/-! ## The POOL choice (R110) -/

/-- The slot where a cartridge that fits a session's choice stands. -/
def Ctl.fits (s : Ctl) (x : Session) (k : Cart) : Option (Fin 24) :=
  match s.findLabel k.label with
  | some (.slot i) =>
    let e := Element.slot i
    match (s.elem e).entry with
    | some en =>
      if (s.elem e).occ = .full ∧ classOf k.label ≠ .unsupported ∧ s.slotProtected e = false ∧ s.entryProtected (some en) = false
          ∧ (s.elem e).reserved ≠ some (.link x.owner.other) ∧ s.doorBusy e = false ∧ en.acclim = 0 ∧ en.tab ≠ .set ∧ s.inUse k.label = false
          ∧ k.label ∉ x.passed then some i
      else none
    | none => none
  | _ => none

/-- The better of two candidates by a measure, then by slot. -/
def betterCart (m : Cart → Nat) (a b : Fin 24 × Cart) : Fin 24 × Cart :=
  if m b.2 < m a.2 ∨ (m b.2 = m a.2 ∧ b.1 < a.1) then b else a

def bestCart (m : Cart → Nat) : List (Fin 24 × Cart) → Option Label
  | [] => none
  | x :: xs => some (xs.foldl (betterCart m) x).2.label

/-- The cartridges that fit, each with its slot. -/
def Ctl.fitting (s : Ctl) (x : Session) : List (Fin 24 × Cart) := s.cat.carts.filterMap fun k => (s.fits x k).map fun i => (i, k)

/-- Step 1 of the choice: the fitting OPEN cartridge with the smallest sufficient estimate. -/
def Ctl.poolOpen (s : Ctl) (x : Session) : Option Label :=
  bestCart Cart.estimate ((s.fitting x).filter fun p =>
    p.2.state = .opened && !p.2.early && decide (p.2.sets.length < Config.setListRoom) && decide (x.hint ≤ p.2.estimate))

/-- Step 2: the fitting BLANK or SCRATCH cartridge in the lowest slot. -/
def Ctl.poolNew (s : Ctl) (x : Session) : Option Label :=
  bestCart (fun _ => 0) ((s.fitting x).filter fun p => p.2.state = .blank || p.2.state = .scratch)

/-- The POOL choice: at a span, step 2 alone (R110, R135). -/
def Ctl.poolChoice (s : Ctl) (x : Session) : Option Label :=
  if s.setWriting x then s.poolNew x else (s.poolOpen x).orElse fun _ => s.poolNew x

/-- A cartridge has been chosen: the session enters LOADING, or SPANNING at a span, and raises its LOAD (R111, R113). -/
def Ctl.loadChosen (s : Ctl) (c : Chan) (x : Session) (l : Label) : Ctl :=
  let st : SessionState := if s.setWriting x then .spanning else .loading
  ((s.setSession c { x with state := st, chosen := some l, needTimer := false }).raiseLoad c l x.req (.chan c) .write).grant c

/-- The choice of a cartridge, or NEED_CARTRIDGE (R110, R113, R135). -/
def Ctl.choose (s : Ctl) (c : Chan) : Ctl :=
  match s.session c with
  | some x =>
    match s.poolChoice x with
    | some l => s.loadChosen c x l
    | none => ((s.setSession c { x with state := .needCartridge, chosen := none, needTimer := true }).notify x.req (.needCartridge x.setId)).grant c
  | none => s

/-- "Choose again" (R111): the cartridge joins the passed-over list. DESIGN CHOICE (log 69): a list that holds 64 labels takes no more, and the cartridge can be chosen again. -/
def Session.passOver (x : Session) : Session :=
  match x.chosen with
  | some l => { x with chosen := none, passed := if l ∈ x.passed ∨ Config.passedRoom ≤ x.passed.length then x.passed else x.passed ++ [l] }
  | none => x

def Ctl.chooseAgain (s : Ctl) (c : Chan) (unload : Bool) : Ctl :=
  match s.session c with
  | some x =>
    let s1 := if unload then s.unloadHome c (some x.req) (some (.chan c)) else s
    (s1.modSession c Session.passOver).choose c
  | none => s

/-- "Ends" (R111): the OPENING set is deleted and SESSION_ENDED(set, DELETED, cause) is sent. DESIGN CHOICE (log 81): a LOAD of the session that still waits, as after a HARDWARE_FAULT of the
EJECT before it, stays in the queue, belongs to no activity, and fails at its start with WRONG_STATE. -/
def Ctl.endOpening (s : Ctl) (c : Chan) (cause : Code) (unload : Bool) : Ctl :=
  match s.session c with
  | some x => ((s.putCat (s.cat.deleteSet x.setId)).notify x.req (.sessionEnded x.setId .deleted cause 0)).endSession c unload
  | none => s

/-- A choice is tried again in NEED_CARTRIDGE (R113). -/
def Ctl.rechoose (s : Ctl) (c : Chan) : Ctl :=
  match s.session c with
  | some x =>
    if x.state = .needCartridge then
      match s.poolChoice x with
      | some l => s.loadChosen c x l
      | none => s
    else s
  | none => s

/-- Both channels' sessions in NEED_CARTRIDGE choose again (R113). DESIGN CHOICE (log 80): C0 first, so that of two sessions that one cartridge fits C0's has it. -/
def Ctl.rechooseAll (s : Ctl) : Ctl := (s.rechoose .c0).rechoose .c1

/-! ## Coding, sync and suspension: what a channel does of itself (R107, R114, R118) -/

/-- The closed bank that is coded first. -/
def Channel.nextClosed (ch : Channel) : Option BankIx :=
  if ch.bank0.state = .closed ∧ ch.bank1.state = .closed then
    if ((ch.bank0.stamp.map (·.block)).getD 0) ≤ ((ch.bank1.stamp.map (·.block)).getD 0) then some .b0 else some .b1
  else if ch.bank0.state = .closed then some .b0
  else if ch.bank1.state = .closed then some .b1
  else none

/-- A CLOSED bank is handed to the coder (R107). -/
def Ctl.startCoding (s : Ctl) (c : Chan) : Ctl :=
  match s.session c, (s.chan c).nextClosed with
  | some x, some i =>
    if (s.chan c).buf = .free ∧ (s.chan c).coder = .idle ∧ (x.state = .streaming ∨ x.state = .suspending ∨ x.state = .closing) then
      let s1 := s.setBank c i { (s.chan c).bank i with state := .coding }
      s1.setChan c { s1.chan c with coder := .coding i { bytes := s.dicts.contents x.dict, generation := s.dicts.gen x.dict } }
    else s
  | _, _ => s

/-- A pending SYNC closes the FILLING bank once the other bank is EMPTY (R114). DESIGN CHOICE (log 70): a bank that holds only later bytes is not closed. -/
def Ctl.syncClose (s : Ctl) (c : Chan) : Ctl :=
  match s.session c, (s.chan c).filling with
  | some x, some i => if x.syncPending ∧ x.banksClosed < x.syncUpTo ∧ ((s.chan c).bank i.other).state = .empty then s.closeBank c i else s
  | _, _ => s

/-- A bank still holds bytes that a SYNC waits for. -/
def Bank.syncHolds (b : Bank) (upTo : Nat) : Bool :=
  (b.state = .closed || b.state = .coding || b.state = .writing || b.state = .retained)
    && match b.stamp with
      | some st => decide (st.block < upTo)
      | none => false

/-- A pending SYNC completes (R114). -/
def Ctl.syncDone (s : Ctl) (c : Chan) : Ctl :=
  match s.session c with
  | some x =>
    if x.syncPending = true ∧ x.state ≠ .aborting ∧ x.syncUpTo ≤ x.banksClosed ∧ (bankIxs.any fun i => ((s.chan c).bank i).syncHolds x.syncUpTo) = false then
      (s.setSession c { x with syncPending := false }).notify x.req (.syncDone x.setId (((s.sessionSet x).map (·.blocks)).getD 0))
    else s
  | none => s

/-- The session becomes SUSPENDED (R118): one bank and the coded buffer are lent, and the channel passes to the restore that asked. -/
def Ctl.becomeSuspended (s : Ctl) (c : Chan) (x : Session) (kept : BankIx) (id : Nat) : Ctl :=
  let needs := match s.restore? id with
    | some r => s.restoreLabel r ≠ s.labelIn c
    | none => false
  let s1 := s.setBank c kept.other { Bank.empty with state := .lent }
  let s2 := s1.setChan c { s1.chan c with buf := .lent, mode := .restore, claim := none }
  let s3 := (s2.setSession c { x with state := .suspended, kept := some kept, unloaded := needs }).notify x.req (.sessionSuspended x.setId)
  let s4 := if needs then s3.unloadHome c (some x.req) (some (.chan c)) else s3
  (s4.modRestore id fun r => { r with displaced := some x.setId }).restoreBegin c id

/-- A bank's bytes and record ends that a session has put there: an EMPTY bank has none, whatever the expander has left in it (R103). -/
def Bank.taken (b : Bank) : List Byte := if b.state = .filling then b.bytes else []
def Bank.takenEnds (b : Bank) : List Nat := if b.state = .filling then b.ends else []

/-- The kept bank can take everything still credited (R118). -/
def Channel.keptFits (ch : Channel) (i : BankIx) : Bool :=
  decide (4096 * ch.credits ≤ Config.bankBytes - (ch.bank i).taken.length) && decide (ch.credits ≤ Config.bankEnds - (ch.bank i).takenEnds.length)

/-- The suspension test (R118), made while no bank is CLOSED, CODING or WRITING, so that each is EMPTY or FILLING. -/
def Ctl.suspendTest (s : Ctl) (c : Chan) : Ctl :=
  match s.session c, (s.chan c).claim with
  | some x, some (.restore id) =>
    if x.state = .suspending ∧ (s.chan c).anyBank (fun b => b ≠ .empty && b ≠ .filling) = false then
      let kept := (s.chan c).filling.getD .b0
      if (s.chan c).keptFits kept then s.becomeSuspended c x kept id
      else if ((s.chan c).bank kept.other).state = .empty then s.closeFilling c
      else s
    else s
  | _, _ => s

/-- In CLOSING with both banks EMPTY the summary block with flag CLOSED is written; refused by the law, it aborts the session (R115). -/
def Ctl.closeProceed (s : Ctl) (c : Chan) : Ctl :=
  match s.session c with
  | some x =>
    if x.state = .closing ∧ (s.chan c).bank0.state = .empty ∧ (s.chan c).bank1.state = .empty ∧ (s.tr c).activityOrder = false then
      match s.trySummary c .closed with
      | some s1 => s1
      | none => s.abort c .writeFault true false
    else s
  | none => s

/-- What the channel judges at each change of its banks or its session, in R107's order: the next CLOSED bank, its grants, a pending SYNC, a suspension in progress, with the bank
that either of these has closed, and a close in progress. -/
def Ctl.judgeChannel (s : Ctl) (c : Chan) : Ctl :=
  ((((((s.startCoding c).grant c).syncClose c).syncDone c).suspendTest c).startCoding c).closeProceed c

/-- The session would enter STREAMING: it enters CLOSING instead when a close is pending (R115). -/
def Ctl.enterStreaming (s : Ctl) (c : Chan) : Ctl :=
  (s.modSession c fun x => { x with state := if x.closePending then .closing else .streaming }).judgeChannel c

/-! ## Spanning (R134 to R136) -/

/-- The session enters SPANNING, and the span is carried out: refused for a fifth extent, or begun with the summary with flag CONTINUES (R134). -/
def Ctl.beginSpan (s : Ctl) (c : Chan) : Ctl :=
  match s.session c with
  | some x =>
    let s1 := (s.setSession c { x with state := .spanning }).grant c
    if Config.extentRoom ≤ ((s.sessionSet x).map (·.extents.length)).getD 0 then s1.abort c .setTooLong false false
    else
      match s1.trySummary c .continues with
      | some s2 => s2
      | none => s1.abort c .writeFault true false
  | none => s

/-- A span is ordered for a bank's block (R134): the bank is RETAINED. In SUSPENDING the suspension is first refused back to the restore (R118), which `Ctl.refuseSuspension` does. -/
def Ctl.orderSpan (s : Ctl) (c : Chan) (i : BankIx) : Ctl :=
  match s.session c with
  | some x =>
    let b := (s.chan c).bank i
    let s1 := if b.state = .writing then s.setBank c i { b with state := .retained } else s
    if x.state = .suspending then s1 else s1.beginSpan c
  | none => s

/-- The data block of a bank is sent to the transport: LOCATE first where it does not stand at the end-of-data (R121). -/
def Ctl.sendData (s : Ctl) (c : Chan) (k : Cart) (r : SetRec) (b : CodedBlock) : Ctl :=
  if (s.tr c).pos = k.eod then s.writeBlock c (dataBlock k r b) (.sDataWrite b.bank) else s.locate c k.eod (.sDataLocate b.bank)

/-- A block in hand leaves the channel: its bank is EMPTY and the coded buffer free. -/
def Ctl.freeBlock (s : Ctl) (c : Chan) (i : BankIx) : Ctl :=
  let s1 := s.setBank c i .empty
  s1.setChan c { s1.chan c with buf := .free }

/-- The Formatter takes a block in hand (R130, R131): refused by the law of writing it ends the session; not fitting the cartridge it orders a span; otherwise it is sent. -/
def Ctl.formatData (s : Ctl) (c : Chan) (b : CodedBlock) : Ctl :=
  match s.session c with
  | some x =>
    match s.sessionSet x, s.cartIn c with
    | some r, some k =>
      if s.mayWrite k (s.entryIn c) false then
        if k.mustSpan b.cost then s.orderSpan c b.bank else s.sendData c k r b
      else (s.freeBlock c b.bank).abort c .writeFault true false
    | _, _ => (s.freeBlock c b.bank).abort c .writeFault true false
  | none => s

/-- The coder has finished a bank: the bank is WRITING, the coded buffer is held by its block, and the Formatter takes it (R93, R107). -/
def Ctl.coderResult (s : Ctl) (c : Chan) : Ctl :=
  match (s.chan c).coder, s.session c with
  | .coding i d, some x =>
    let b := (s.chan c).bank i
    if b.state = .coding then
      let blk := codeBank i b (b.stamp.getD x.stamp) x.dict d
      let s1 := s.setBank c i { b with state := .writing }
      (s1.setChan c { s1.chan c with coder := .idle, buf := .held blk }).formatData c blk
    else s
  | _, _ => s

/-- The retained block is rebuilt on the span cartridge and sent (R136). -/
def Ctl.rewriteRetained (s : Ctl) (c : Chan) : Ctl :=
  match (s.chan c).buf with
  | .held b =>
    if ((s.chan c).bank b.bank).state = .retained then (s.setBank c b.bank { (s.chan c).bank b.bank with state := .writing }).formatData c b else s
  | _ => s

/-! ## Preparing a cartridge (R112, R119, R124, R135) -/

/-- The session is ready: its first extent is added, SESSION_READY is sent, and it enters STREAMING (R112). -/
def Ctl.sessionReady (s : Ctl) (c : Chan) : Ctl :=
  match s.session c with
  | some x =>
    match s.chosenCart x with
    | some k =>
      ((s.addExtent x.setId { label := k.label, firstPos := k.eod, firstBlock := 0, count := 0 }).notify x.req
        (.sessionReady x.setId c k.label)).enterStreaming c
    | none => s
  | none => s

/-- The volume block write of a BLANK or SCRATCH cartridge starts with LOCATE(0) (R112, R121, R135). -/
def Ctl.startVolumeWrite (s : Ctl) (c : Chan) : Ctl := s.locate c 0 .sVolWriteLocate

/-- Checks begin with the volume block at position 0 (R112, R119). -/
def Ctl.startVolumeCheck (s : Ctl) (c : Chan) : Ctl := s.readAt c 0 .sVolLocate .sVolRead

/-- The block at end-of-data − 1 is read (R112, R119). -/
def Ctl.startEndCheck (s : Ctl) (c : Chan) : Ctl :=
  match s.cartIn c with
  | some k => s.readAt c (k.eod - 1) .sEndLocate .sEndRead
  | none => s.readBlock c .sEndRead

/-- APPENDING_CHECK begins (R112). -/
def Ctl.beginAppend (s : Ctl) (c : Chan) : Ctl :=
  match s.session c with
  | some x =>
    let s1 := s.setSession c { x with state := .appendingCheck }
    match s.chosenCart x with
    | some k => if k.state = .blank ∨ k.state = .scratch then s1.startVolumeWrite c else s1.startVolumeCheck c
    | none => s1.startVolumeCheck c
  | none => s

/-- The session's channel is in WRITE mode: a named target MOUNTED in its transport goes straight to APPENDING_CHECK, any other to LOADING; POOL chooses (R109). -/
def Ctl.sessionStart (s : Ctl) (c : Chan) : Ctl :=
  let ch := s.chan c
  let s1 := s.setChan c { ch with mode := .write, claim := none, bank0 := .empty, bank1 := .empty, buf := .free, coder := .idle, expander := .idle }
  match s1.session c with
  | some x =>
    match x.target with
    | some l => if s1.labelIn c = some l ∧ (s1.tr c).state = .mounted then s1.beginAppend c else s1.loadChosen c x l
    | none => s1.choose c
  | none => s1

/-- The volume block is built and sent, or refused under the law of writing (R112, R130). DEDUCED (log 21): an abort that came before it was sent drops it, as R138 drops a block in
hand that is not being written. -/
def Ctl.sendVolume (s : Ctl) (c : Chan) : Ctl :=
  match s.session c, s.cartIn c with
  | some x, some k =>
    if x.state = .aborting then s.abortProceed c
    else if s.mayWrite k (s.entryIn c) true then s.writeBlock c (volumeBlock k) .sVolWrite
    else if x.state = .spanning ∨ x.target = none then s.chooseAgain c true
    else s.endOpening c .writeFault true
  | some x, none =>
    if x.state = .aborting then s.abortProceed c else if x.state = .spanning ∨ x.target = none then s.chooseAgain c true else s.endOpening c .writeFault true
  | none, _ => s

/-- The extent of a span cartridge is added, and the retained block is rewritten on it (R135). -/
def Ctl.spanReady (s : Ctl) (c : Chan) (x : Session) : Ctl :=
  match x.chosen, (s.chan c).buf with
  | some l, .held b =>
    ((s.addExtent x.setId { label := l, firstPos := 1, firstBlock := b.stamp.block, count := 0 }).setSession c { x with contWritten := false }).rewriteRetained c
  | _, _ => s

/-- The failure of a check, or of the cartridge, during OPENING or a span (R112, R135): UNLOAD HOME, then choose again or end. -/
def Ctl.prepareFailed (s : Ctl) (c : Chan) (cause : Code) : Ctl :=
  match s.session c with
  | some x =>
    match x.state with
    | .aborting => s.abortProceed c
    | .resuming => s.abort c .resumeFailed false false
    | .spanning => s.chooseAgain c true
    | _ => if x.target = none then s.chooseAgain c true else s.endOpening c cause true
  | none => s

/-- A transport HARDWARE_FAULT while a cartridge is prepared (R111, R112, R119, R135). -/
def Ctl.prepareBroken (s : Ctl) (c : Chan) : Ctl :=
  match s.session c with
  | some x =>
    match x.state with
    | .aborting => s.abortProceed c
    | .resuming => s.abort c .resumeFailed false false
    | .spanning => s.abort c .writeFault false false
    | _ => s.endOpening c .writeFault false
  | none => s

/-- THREADED for a session (R111, R119, R135). -/
def Ctl.sessionThreaded (s : Ctl) (c : Chan) (tab : Tab) : Ctl :=
  match s.session c with
  | some x =>
    match x.state with
    | .aborting => s.abortProceed c
    | .resuming => if tab = .set then s.abort c .resumeFailed false false else s.startVolumeCheck c
    | .spanning => if tab = .set then s.chooseAgain c true else s.startVolumeWrite c
    | .loading =>
      if tab = .set then (if x.target = none then s.chooseAgain c true else s.endOpening c .tabProtected true) else s.beginAppend c
    | _ => s
  | none => s

/-- The resume checks have passed (R119). -/
def Ctl.sessionResumed (s : Ctl) (c : Chan) : Ctl :=
  match s.session c with
  | some x =>
    ((s.setSession c { x with unloaded := false, kept := none }).notify x.req (.sessionResumed x.setId)).enterStreaming c
  | none => s

/-- The volume block of a session's check has been read (R112, R119, R124). -/
def Ctl.sessionVolRead (s : Ctl) (c : Chan) (r : ReadResult) : Ctl :=
  match s.session c with
  | some x =>
    if x.state = .aborting then s.abortProceed c
    else if (match s.cartIn c with | some k => volumeCheck k r | none => false) then s.startEndCheck c
    else (s.markUnknown c).prepareFailed c .mismatch
  | none => s

/-- The block at end-of-data − 1 of a session's check has been read (R112, R119, R124). -/
def Ctl.sessionEndRead (s : Ctl) (c : Chan) (r : ReadResult) : Ctl :=
  match s.session c with
  | some x =>
    match x.state with
    | .aborting => s.abortProceed c
    | .resuming =>
      if (match s.cartIn c, s.sessionSet x with | some k, some st => resumeCheck k st r | _, _ => false) then s.sessionResumed c
      else (s.markUnknown c).prepareFailed c .mismatch
    | _ =>
      if (match s.cartIn c with | some k => appendCheck k r | none => false) then s.sessionReady c
      else (s.markUnknown c).prepareFailed c .mismatch
  | none => s

/-- A LOAD of the session has failed (R111, R119, R135). -/
def Ctl.sessionLoadFailed (s : Ctl) (c : Chan) (reason : Code) : Ctl :=
  match s.session c with
  | some x =>
    let motion : Bool := reason = .gripFault || reason = .pathBlocked || reason = .timeout
    match x.state with
    | .resuming => s.abort c .resumeFailed false false
    | .spanning => if motion then s.abort c reason false false else s.chooseAgain c false
    | .loading => if motion || x.target.isSome then s.endOpening c reason false else s.chooseAgain c false
    | _ => s
  | none => s

/-! ## Block written (R107, R132) -/

/-- A volume block has been written: the cartridge in the transport is OPEN, and a session waiting for it goes on (R112, R132, R135). -/
def Ctl.volumeWritten (s : Ctl) (c : Chan) : Ctl :=
  let s1 := match s.labelHeld c with
    | some l => s.modCart l Cart.volumeWritten
    | none => s
  match s1.session c with
  | some x =>
    match x.state with
    | .appendingCheck => s1.sessionReady c
    | .spanning => s1.spanReady c x
    | .aborting => s1.abortProceed c
    | _ => s1
  | none => s1

/-- The catalog counts a data block (R66, R132). -/
def Ctl.countData (s : Ctl) (x : Session) (l : Label) (b : CodedBlock) : Ctl :=
  let s1 := s.modCart l fun k => k.dataWritten b
  let s2 := s1.modSet x.setId fun r => if r.state = .writing then r.countBlock b.stamp.block b.native b.coded b.ends.length b.stamp.record b.stamp.cont else r
  s2.judgeWarning l x.setId x.owner

/-- A data block has been written (R107, R132, R136). -/
def Ctl.dataWritten (s : Ctl) (c : Chan) (i : BankIx) : Ctl :=
  match s.session c, (s.chan c).buf with
  | some x, .held b =>
    let s1 := match s.labelHeld c with
      | some l => s.countData x l b
      | none => s
    let s2 := s1.freeBlock c i
    match x.state with
    | .aborting => s2.abortProceed c
    | .spanning => s2.enterStreaming c
    | _ => s2.judgeChannel c
  | _, _ => s

/-- The owner's set is offered to the Verify Unit (R141): the policy's trigger, skip counter, overlap and room decide. -/
def Ctl.offerVerify (s : Ctl) (set : Nat) (owner : Link) : Ctl :=
  let p := s.verify.policies.get owner
  match p.trigger with
  | .manual => s
  | .onClose =>
    let n := s.verify.skips.get owner + 1
    if n < p.skip then s.setVerify { s.verify with skips := s.verify.skips.set owner n }
    else
      let s1 := s.setVerify { s.verify with skips := s.verify.skips.set owner 0 }
      let owned : Bool := s1.verify.queue.any fun v => (s1.cat.set? v.set).map (·.owner) = some owner
      if (p.overlap = .drop ∧ owned = true) ∨ Config.verifyRoom ≤ s1.verify.queue.length then s1.modSet set fun r => { r with verify := .skipped }
      else
        s1.setVerify { s1.verify with queue := s1.verify.queue ++
          [{ set := set, origin := .auto, requestedBy := none, mode := p.mode, pattern := p.pattern, passes := p.passes, passesLeft := p.passes,
             state := .waiting, pauseAsked := false, resume := none, bad := 0, badList := [], badMore := false, runRec := none, expected := 0, extent := 0,
             lastFault := none, done := 0, chan := none, waits := false }] }

/-- The close completes (R115). -/
def Ctl.closeComplete (s : Ctl) (c : Chan) (x : Session) : Ctl :=
  let s1 := s.modSet x.setId fun r => if r.state = .writing then { r with state := .closed } else r
  let s2 := match (s1.sessionSet x).bind (·.lastLabel) with
    | some l => s1.modCart l Cart.fullIfDue
    | none => s1
  let s3 := (s2.offerVerify x.setId x.owner).autoCheckpoint
  let s4 := match s3.sessionSet x with
    | some r => s3.notify x.req (.setClosed x.setId r.blocks r.records r.native r.coded)
    | none => s3
  s4.endSession c true

/-- The CONTINUES summary has been written: the cartridge is FULL, it is unloaded, and the span cartridge is chosen (R134). -/
def Ctl.continuesWritten (s : Ctl) (c : Chan) (x : Session) : Ctl :=
  let s1 := match s.labelHeld c with
    | some l => s.modCart l fun k => { k with state := .full }
    | none => s
  let s2 := s1.setSession c { x with contWritten := true }
  if x.state = .aborting then s2.abortProceed c
  else ((s2.unloadHome c (some x.req) (some (.chan c))).modSession c fun x => { x with chosen := none }).choose c

/-- A summary block has been written (R115, R116, R132, R134). -/
def Ctl.summaryWritten (s : Ctl) (c : Chan) (f : SummaryFlag) : Ctl :=
  match s.session c with
  | some x =>
    let s1 := match s.labelHeld c with
      | some l => (s.modCart l Cart.summaryWritten).judgeWarning l x.setId x.owner
      | none => s
    match f with
    | .continues => s1.continuesWritten c x
    | .closed => if x.state = .aborting then s1.abortProceed c else s1.closeComplete c x
    | .truncated => s1.finishAbort c true
  | none => s

/-! ## Faults (R107, R111, R112, R115, R119, R133, R134) -/

/-- A FAULT has answered an order of a session; its transport and its cartridge's record already show it. -/
def Ctl.sessionFault (s : Ctl) (c : Chan) (t : Task) (media : Bool) : Ctl :=
  match t with
  | .sDataLocate i => ((s.freeBlock c i).abort c (if media then .mediaFault else .writeFault) true false).abortProceed c
  | .sDataWrite i => ((s.freeBlock c i).abort c (if media then .mediaFault else .writeFault) true false).abortProceed c
  | .sSumLocate .truncated => s.finishAbort c false
  | .sSumWrite .truncated => s.finishAbort c false
  | .sSumLocate _ => (s.abort c (if media then .mediaFault else .writeFault) true false).abortProceed c
  | .sSumWrite _ => (s.abort c (if media then .mediaFault else .writeFault) true false).abortProceed c
  | _ => if media then s.prepareFailed c .mediaFault else s.prepareBroken c

/-- END_OF_MEDIA has refused a data block (R133). -/
def Ctl.endOfMedia (s : Ctl) (c : Chan) (i : BankIx) : Ctl :=
  match s.session c with
  | some x =>
    let s1 := match s.cartIn c with
      | some k => if k.early then s else (s.modCart k.label fun k => { k with early := true }).notifyLink x.owner (.earlyWarning x.setId k.label)
      | none => s
    if x.state = .aborting then (s1.freeBlock c i).abortProceed c else s1.orderSpan c i
  | none => s

/-! ## Suspension and resumption (R118, R119) -/

/-- The channel is asked to suspend its session (R118); the asking restore has made its claim. -/
def Ctl.suspendAsk (s : Ctl) (c : Chan) : Ctl :=
  match s.session c with
  | some x => ((s.setSession c { x with state := .suspending }).notify x.req (.sessionSuspending x.setId)).judgeChannel c
  | none => s

/-- A restore withdraws its claim on a SUSPENDING session: back to STREAMING (R158). -/
def Ctl.suspendWithdrawn (s : Ctl) (c : Chan) : Ctl :=
  match s.session c with
  | some x =>
    if x.state = .suspending then
      ((s.setChan c { s.chan c with claim := none }).notify x.req (.sessionResumed x.setId)).enterStreaming c
    else s.setChan c { s.chan c with claim := none }
  | none => s.setChan c { s.chan c with claim := none }

/-- A LENT bank comes back EMPTY. -/
def Bank.returned (b : Bank) : Bank := if b.state = .lent then .empty else b

/-- The restore has returned the LENT bank and the coded buffer: the session is RESUMING (R119). DESIGN CHOICE (log 82): a cartridge unloaded for the restore that still stands in its own
transport, its UNLOAD having failed, has no slot a LOAD could start from (R28); it is threaded again, or goes straight to the volume check where it is MOUNTED. -/
def Ctl.sessionResume (s : Ctl) (c : Chan) : Ctl :=
  let ch := s.chan c
  let s1 := s.setChan c { ch with mode := .write, bank0 := ch.bank0.returned, bank1 := ch.bank1.returned, buf := .free, expander := .idle }
  match s1.session c with
  | some x =>
    let s2 := (((s1.setSession c { x with state := .resuming }).grant c).syncClose c).syncDone c
    if x.unloaded then
      match x.chosen with
      | some l =>
        if s2.labelIn c = some l ∧ s2.unloadRaised c (some x.req) (some (.chan c)) = false then
          if (s2.tr c).state = .mounted then s2.startVolumeCheck c else s2.thread c .sThread
        else s2.raiseLoad c l x.req (.chan c) .write
      | none => s2
    else s2.startEndCheck c
  | none => s1

/-- The channel a restore or a drained activity has given back: to its suspended session, to the activity that claimed it, or IDLE (R102, R165). -/
def Ctl.finishChannel (s : Ctl) (c : Chan) : Ctl :=
  match s.session c with
  | some x =>
    if x.state = .suspended then s.sessionResume c
    else if (s.chan c).claim = some .session then s.sessionStart c
    else s.passChannel c
  | none =>
    let ch := s.chan c
    (s.setChan c { ch with bank0 := ch.bank0.returned, bank1 := ch.bank1.returned, buf := .free, expander := .idle }).passChannel c

/-- An ended activity's channel is given back once no order of it is outstanding (R148, R165); the unload it still owes is raised first. DEDUCED (log 73): transport orders and a RUNNING
LOAD are waited for; a RUNNING UNLOAD that the activity raised before its LOAD runs on by itself. -/
def Ctl.finishDrain (s : Ctl) (c : Chan) : Ctl :=
  match (s.chan c).drain with
  | some d =>
    if (s.tr c).activityOrder ∨ s.orphanLoad c then s
    else
      let s1 := s.setChan c { s.chan c with drain := none }
      (if d.unload then s1.unloadHome c (some d.requester) none else s1).finishChannel c
  | none => s

/-- Drained channels, tried after every report. -/
def Ctl.finishDrains (s : Ctl) : Ctl := (s.finishDrain .c0).finishDrain .c1

end Sys2Proof.Machine
end

