-- ==== Sys2Proof/Machine/Verify.lean ====
section
/-! DEFINITION. The Verify Unit (chapter 8): starting an entry, reading a set extent by extent, judging each block, the results, pauses and ends. -/

namespace Sys2Proof.Machine

/-! ## Entries -/

/-- The entry that runs on a channel. -/
def Ctl.verifyOn (s : Ctl) (c : Chan) : Option VerifyEntry := s.verify.queue.find? fun v => v.state = .running && v.chan = some c

def Ctl.verifyRunning (s : Ctl) : Option VerifyEntry := s.verify.queue.find? fun v => v.state = .running

def Ctl.verifyOf (s : Ctl) (set : Nat) : Option VerifyEntry := s.verify.queue.find? fun v => v.set = set

def Ctl.modVerify (s : Ctl) (set : Nat) (f : VerifyEntry → VerifyEntry) : Ctl :=
  s.setVerify { s.verify with queue := s.verify.queue.map fun v => if v.set = set then f v else v }

def Ctl.dropVerify (s : Ctl) (set : Nat) : Ctl := s.setVerify { s.verify with queue := s.verify.queue.filter fun v => v.set ≠ set }

/-- The owner of an entry's set, on whose behalf it runs (R139). DESIGN CHOICE (log 86): where no set record has its id, Link A; no entry outlives its set's record (R70, log 63), so that no
run comes to that. -/
def Ctl.verifyOwner (s : Ctl) (v : VerifyEntry) : Requester :=
  match s.cat.set? v.set with
  | some r => .link r.owner
  | none => .link .a

/-- The extent an entry is reading. -/
def Ctl.verifyExtent (s : Ctl) (v : VerifyEntry) : Option Extent := (s.cat.set? v.set).bind fun r => r.extents[v.extent]?

/-- The last block of an extent, plus 1. -/
def Extent.after (x : Extent) : Nat := x.firstBlock + x.count

/-! ## Block selection and bad blocks (R145, R148) -/

def Pattern.selects (p : Pattern) (k : Nat) : Bool :=
  match p with
  | .all => true
  | .everyNth n => k % n = 0
  | .run m t => k % t < m

/-- A block counts as bad (R148). -/
def VerifyEntry.countBad (v : VerifyEntry) (k : Nat) : VerifyEntry :=
  if v.badList.length < Config.badListRoom then { v with bad := v.bad + 1, badList := v.badList ++ [k] } else { v with bad := v.bad + 1, badMore := true }

/-- The blocks from `k` up to, not including, `stop` count as bad. -/
def VerifyEntry.countBadRange (v : VerifyEntry) (k stop : Nat) : VerifyEntry := (List.range' k (stop - k)).foldl VerifyEntry.countBad v

/-- The working results and the place of a pass that starts (R144). -/
def VerifyEntry.newPass (v : VerifyEntry) : VerifyEntry :=
  { v with bad := 0, badList := [], badMore := false, runRec := some 0, expected := 0, extent := 0 }

/-! ## Ending an entry (R148, R151) -/

def VerifyOutcome.status : VerifyOutcome → VerifyStatus
  | .passed => .passed
  | .sampled => .sampled
  | .failed => .failed
  | .incomplete => .incomplete

/-- The set record and the notice of an entry's end (R148). -/
def Ctl.verifyReport (s : Ctl) (v : VerifyEntry) (o : VerifyOutcome) (reason : Option Code) : Ctl :=
  let s1 := s.modSet v.set fun r => { r with verify := o.status, bad := v.bad, badList := v.badList, badMore := v.badMore }
  let n := Notice.verifyDone v.set o v.done v.bad reason
  let s2 := (s1.dropVerify v.set).notify (s.verifyOwner v) n
  if v.requestedBy = some .panel then s2.notify .panel n else s2

/-- The labels of the set an entry reads. -/
def Ctl.verifyLabels (s : Ctl) (v : VerifyEntry) : List Label := ((s.cat.set? v.set).map fun r => r.extents.map (·.label)).getD []

/-- A cartridge of the set an entry reads stands in the transport. -/
def Ctl.verifyHolds (s : Ctl) (v : VerifyEntry) (c : Chan) : Bool :=
  match s.labelIn c with
  | some l => decide (l ∈ s.verifyLabels v)
  | none => false

/-- An entry leaves its channel: its orders are withdrawn, an outstanding transport order and an expansion are dropped, its cartridge (where the entry was stopped, whatever is left in the
transport) is unloaded where `unload` says so, and the channel is given back once no order of it is outstanding (R144, R148, R151). -/
def Ctl.verifyLeave (s : Ctl) (v : VerifyEntry) (c : Chan) (unload stopped : Bool) : Ctl :=
  let s1 := (s.withdraw fun o => o.raisedBy = some .verifyUnit).disown .verifyUnit unload
  let s3 := (s1.setTr c (s1.tr c).orphan).stopExpander c
  let s4 := if unload && (stopped || s3.verifyHolds v c) then s3.unloadHome c (some (s.verifyOwner v)) none else s3
  (s4.setChan c { s4.chan c with drain := some { requester := s.verifyOwner v, unload := false } }).finishDrain c

/-- An entry ends with an outcome (R148): a RUNNING one gives its channel back. -/
def Ctl.verifyEnd (s : Ctl) (v : VerifyEntry) (o : VerifyOutcome) (reason : Option Code) (unload : Bool) : Ctl :=
  let s1 := s.verifyReport v o reason
  match v.state, v.chan with
  | .running, some c => s1.verifyLeave v c unload (decide (reason = some .cancelled ∨ reason = some .reset))
  | _, _ => s1

/-- A request or a reset stops an entry (R151, R153): one that has never started leaves in silence. -/
def Ctl.verifyStop (s : Ctl) (v : VerifyEntry) (reason : Code) (unload : Bool) : Ctl :=
  match v.state with
  | .waiting => s.dropVerify v.set
  | _ => s.verifyEnd v .incomplete (some reason) unload

/-! ## Pausing (R150) -/

/-- The pause: the entry goes to the head of the queue, and its channel passes on. -/
def Ctl.verifyPause (s : Ctl) (v : VerifyEntry) (c : Chan) : Ctl :=
  let p := { v with state := .paused, pauseAsked := false, resume := some v.expected, chan := none, waits := false }
  let s1 := s.setVerify { s.verify with queue := p :: s.verify.queue.filter fun w => w.set ≠ v.set }
  let s2 := (s1.withdraw fun o => o.raisedBy = some .verifyUnit).disown .verifyUnit false
  s2.finishChannel c

/-- A LOAD of the running entry is RUNNING. -/
def Ctl.verifyLoading (s : Ctl) : Bool :=
  match s.picker.running with
  | some o => o.kind = .load && o.raisedBy = some .verifyUnit
  | none => false

/-- The entry running on a channel is asked to pause; between orders the pause is made at once (R150). DEDUCED (log 72): so is it while an UNLOAD raised before the LOAD is RUNNING, which
runs on by itself. -/
def Ctl.verifyAskPause (s : Ctl) (c : Chan) : Ctl :=
  match s.verifyOn c with
  | some v =>
    let v' := { v with pauseAsked := true }
    let s1 := s.modVerify v.set fun _ => v'
    if s.verifyLoading ∨ (s.tr c).activityOrder ∨ (s.chan c).expander ≠ .idle then s1 else s1.verifyPause v' c
  | none => s

/-! ## Judging a cartridge (R143, R144) -/

/-- What the table of R143 says of an entry's next cartridge. -/
inductive VerifyJudge
  | ends
  | passed
  | standsIn (c : Chan)
  | standsInSlot
  deriving DecidableEq, Repr

def Ctl.judgeVerifyCart (s : Ctl) (l : Label) : VerifyJudge :=
  match s.cat.cart? l with
  | none => .ends
  | some k =>
    if k.loc = none then .ends
    else
      match s.findLabel l with
      | none => .passed
      | some .gripper => .passed
      | some e =>
        if s.usedBySession l ∨ s.usedByRestore l none ∨ s.usedByRecovery l then .passed
        else
          match e with
          | .transport c => .standsIn c
          | _ => .standsInSlot

/-- A channel an entry may take: IDLE, its transport neither FAULTED nor reserved by another than the owner. -/
def Ctl.freeChannelFor (s : Ctl) (p : Requester) (c : Chan) : Bool :=
  s.chanIdle c && (s.tr c).state ≠ .faulted && !s.reservedByOther (some p) (.transport c)

/-- An entry loads the cartridge of the extent it is at (R144, step 1), or waits. -/
def Ctl.verifyLoad (s : Ctl) (v : VerifyEntry) (c : Chan) (x : Extent) : Ctl :=
  let own := s.verifyOwner v
  if s.labelIn c = some x.label then
    (s.modVerify v.set fun v => { v with waits := (s.tr c).order.isSome }).bringIn c .vThread .vVolLocate .vVolRead
  else
    match s.judgeVerifyCart x.label with
    | .ends => s.verifyEnd v .incomplete (some .noCartridge) true
    | .passed => s.modVerify v.set fun v => { v with waits := true }
    | .standsIn d =>
      let s1 := s.modVerify v.set fun v => { v with waits := true }
      if d ≠ c ∧ s.chanIdle d = true ∧ (s.tr d).state ≠ .faulted then s1.unloadHome d (some own) (some .verifyUnit) else s1
    | .standsInSlot =>
      if (s.tr c).state = .faulted ∨ s.reservedByOther (some own) (.transport c) then s.modVerify v.set fun v => { v with waits := true }
      else (s.modVerify v.set fun v => { v with waits := false }).raiseLoad c x.label own .verifyUnit .verify

/-- The next extent lies on another cartridge than the one of the set in the transport: that one goes home (R144). -/
def Ctl.verifyHome (s : Ctl) (v : VerifyEntry) (c : Chan) (x : Extent) : Ctl :=
  if s.labelIn c ≠ some x.label ∧ s.verifyHolds v c = true then s.unloadHome c (some (s.verifyOwner v)) (some .verifyUnit) else s

/-- LOCATE to the expected block (R144, step 3). -/
def Ctl.verifyLocate (s : Ctl) (v : VerifyEntry) (c : Chan) (x : Extent) : Ctl := s.locate c (x.firstPos + (v.expected - x.firstBlock)) .vLocate

/-- The entry goes on at its place: over extents with nothing left to read, then to a pause that has been asked, which comes before a load and before the end of a pass (R150), or to a
load, or to the end of the pass and into the next (R144, R148). `fuel` exceeds the extents of all passes. -/
def Ctl.verifyGo (c : Chan) : Nat → Ctl → Ctl
  | 0, s => s
  | n + 1, s =>
    match s.verifyOn c with
    | none => s
    | some v =>
      match s.verifyExtent v with
      | some x =>
        if x.count = 0 ∨ x.after ≤ v.expected then
          verifyGo c n (s.modVerify v.set fun v => { v with extent := v.extent + 1, expected := max v.expected x.after })
        else if v.pauseAsked then s.verifyPause v c
        else (s.verifyHome v c x).verifyLoad v c x
      | none =>
        if v.pauseAsked then s.verifyPause v c
        else
        let s1 := s.modSet v.set fun r => { r with passes := r.passes + 1 }
        let v1 := { v with done := v.done + 1 }
        if 0 < v.bad then s1.verifyEnd v1 .failed none true
        else if v.passesLeft ≤ 1 then s1.verifyEnd v1 (if v.pattern = .all then .passed else .sampled) none true
        else
          let v2 := { v1 with passesLeft := v.passesLeft - 1 }.newPass
          let s2 := s1.modVerify v.set fun _ => v2
          match (s2.cat.set? v.set).map (·.extents) with
          | some [x] =>
            if s2.labelIn c = some x.label ∧ (s2.tr c).state = .mounted ∧ 0 < x.count then s2.verifyLocate v2 c x else verifyGo c n s2
          | _ => verifyGo c n s2

def Ctl.verifyNext (s : Ctl) (c : Chan) : Ctl := s.verifyGo c 64

/-- The extent's reading ends (R144, step 5): what is left unjudged counts as bad. -/
def Ctl.verifyExtentEnd (s : Ctl) (v : VerifyEntry) (c : Chan) (x : Extent) : Ctl :=
  let v1 := v.countBadRange v.expected x.after
  let v2 := { v1 with extent := v.extent + 1, expected := max v.expected x.after }
  (s.modVerify v.set fun _ => v2).verifyNext c

/-- After a block has been judged: the extent ends, or the entry pauses, or the next block is read (R144). -/
def Ctl.verifyContinue (s : Ctl) (c : Chan) : Ctl :=
  match s.verifyOn c with
  | some v =>
    match s.verifyExtent v with
    | some x =>
      if x.firstPos + x.count ≤ (s.tr c).pos ∨ x.after ≤ v.expected then s.verifyExtentEnd v c x
      else if v.pauseAsked then s.verifyPause v c
      else s.readBlock c .vRead
    | none => s.verifyNext c
  | none => s

/-! ## Reports to an entry -/

/-- THREADED: the volume block is read (R144, step 2). -/
def Ctl.verifyThreaded (s : Ctl) (c : Chan) : Ctl :=
  match s.verifyOn c with
  | some v => if v.pauseAsked then s.verifyPause v c else s.readAt c 0 .vVolLocate .vVolRead
  | none => s

/-- A LOCATE is answered: the block is read, or the entry pauses (R150). -/
def Ctl.verifyPositioned (s : Ctl) (c : Chan) (read : Task) : Ctl :=
  match s.verifyOn c with
  | some v => if v.pauseAsked then s.verifyPause v c else s.readBlock c read
  | none => s

/-- The rest of an extent cannot be read: every block of it from the expected one counts as bad (R144, step 2; R149). -/
def Ctl.verifyExtentLost (s : Ctl) (c : Chan) : Ctl :=
  match s.verifyOn c with
  | some v => match s.verifyExtent v with
    | some x => s.verifyExtentEnd v c x
    | none => s.verifyNext c
  | none => s

/-- The volume check (R124, R144). -/
def Ctl.verifyVolRead (s : Ctl) (c : Chan) (r : ReadResult) : Ctl :=
  match s.verifyOn c with
  | some v =>
    match s.verifyExtent v with
    | some x =>
      if (match s.cartIn c with | some k => volumeCheck k r | none => false) then
        if v.pauseAsked then s.verifyPause v c else s.verifyLocate v c x
      else (s.markUnknown c).verifyExtentLost c
    | none => s.verifyNext c
  | none => s

/-- The header of a block is accepted (R146). -/
def Ctl.verifyAccepts (s : Ctl) (v : VerifyEntry) (c : Chan) (h : Header) : Bool :=
  h.kind = 2 && h.set = v.set && (match s.cartIn c with | some k => h.passTag = k.passTag | none => false)

/-- The header of a result that R146 may use: of a GOOD block, or of a CRC_BAD one when the expected block is not selected. -/
def VerifyEntry.usable (v : VerifyEntry) (r : ReadResult) : Option (TapeBlock × Bool) :=
  match r with
  | .good b => some (b, true)
  | .crcBad b => if v.pattern.selects v.expected then none else some (b, false)
  | _ => none

/-- A block with an accepted header has been judged (R146). -/
def VerifyEntry.judged (v : VerifyEntry) (h : Header) (passes : Bool) : VerifyEntry :=
  let v1 := if passes then v else v.countBad h.block
  { v1 with runRec := some (h.record + h.ends), expected := h.block + 1 }

/-- A block judged as its own number (R145, R146): a selected one of a FULL entry goes to the expander first. -/
def Ctl.verifyJudge (s : Ctl) (v : VerifyEntry) (c : Chan) (b : TapeBlock) (good : Bool) : Ctl :=
  if v.pattern.selects b.hdr.block then
    if good ∧ v.mode = .full then
      (s.modVerify v.set fun _ => { v with expected := b.hdr.block }).startExpander c b
    else (s.modVerify v.set fun _ => v.judged b.hdr good).verifyContinue c
  else (s.modVerify v.set fun _ => v.judged b.hdr true).verifyContinue c

/-- A block has been read for an entry (R146, R147). -/
def Ctl.verifyRead (s : Ctl) (c : Chan) (r : ReadResult) : Ctl :=
  match s.verifyOn c with
  | some v =>
    match s.verifyExtent v with
    | some x =>
      if r = .noBlock then s.verifyExtentEnd v c x
      else
        match v.usable r with
        | some (b, good) =>
          if s.verifyAccepts v c b.hdr then
            if x.after ≤ b.hdr.block then s.verifyExtentEnd v c x
            else if b.hdr.block < v.expected then (s.modVerify v.set fun _ => v.countBad b.hdr.block).verifyContinue c
            else s.verifyJudge (v.countBadRange v.expected b.hdr.block) c b good
          else (s.modVerify v.set fun _ => { v.countBad v.expected with expected := v.expected + 1, runRec := none }).verifyContinue c
        | none => (s.modVerify v.set fun _ => { v.countBad v.expected with expected := v.expected + 1, runRec := none }).verifyContinue c
    | none => s.verifyNext c
  | none => s

/-- The expander's report for a FULL block that it started on with dictionary slot `d` (R97, R146): its output stands in bank 0. -/
def Ctl.verifyExpanded (s : Ctl) (c : Chan) (b : TapeBlock) (d : Option DictSlot) : Ctl :=
  match s.verifyOn c with
  | some v =>
    let e := expandWith d b
    let passes : Bool := e.fault.isNone && nativeMatches b e.out && e.out.length = b.hdr.native
      && (match v.runRec with | some n => n = b.hdr.record | none => true)
    let s2 := (s.setBank c .b0 ((s.chan c).bank0.output e.out)).stopExpander c
    let v1 := match e.fault with
      | some f => { v with lastFault := some f }
      | none => v
    (s2.modVerify v.set fun _ => v1.judged b.hdr passes).verifyContinue c
  | none => s.stopExpander c

/-- A FAULT has answered an order of an entry (R149). -/
def Ctl.verifyFault (s : Ctl) (c : Chan) (media : Bool) : Ctl :=
  match s.verifyOn c with
  | some v => if media then s.verifyExtentLost c else s.verifyEnd v .incomplete (some .readFault) false
  | none => s

def Ctl.verifyLoadFailed (s : Ctl) (reason : Code) : Ctl :=
  match s.verifyRunning with
  | some v => s.verifyEnd v .incomplete (some reason) true
  | none => s

/-! ## Starting (R143) -/

/-- The place where an entry takes up its pass: `none` when its resume block lies past the set's last block. -/
def Ctl.verifyPlace (s : Ctl) (v : VerifyEntry) : Option Nat :=
  match v.resume with
  | none => some 0
  | some b => (s.cat.set? v.set).bind fun r => (r.extentOf b).map (·.1)

/-- The channel an entry can start on, if R143's table lets it start; `none` passes it over. -/
def Ctl.verifyChannel (s : Ctl) (v : VerifyEntry) : VerifyJudge → Option Chan
  | .standsIn c => if s.chanIdle c ∧ (s.tr c).state ≠ .faulted then some c else none
  | .standsInSlot => [Chan.c0, Chan.c1].find? (s.freeChannelFor (s.verifyOwner v))
  | _ => none

/-- An entry starts on a channel (R143): a fresh one begins its first pass, a paused one goes on from its resume block. -/
def Ctl.verifyBegin (s : Ctl) (v : VerifyEntry) (c : Chan) (place : Nat) : Ctl :=
  let v1 := { v with state := .running, pauseAsked := false, chan := some c, waits := false }
  let v2 := match v.resume with
    | none => v1.newPass
    | some b => { v1 with resume := none, expected := b, extent := place }
  let s1 := s.modVerify v.set fun _ => v2
  (s1.setChan c { s1.chan c with mode := .verify }).verifyNext c

/-- The look through the queue from the head (R143): entries whose cartridge is gone end, the first that can start does. -/
def Ctl.verifyLook : List VerifyEntry → Ctl → Ctl
  | [], s => s
  | v :: rest, s =>
    match s.verifyPlace v with
    | none =>
      match [Chan.c0, Chan.c1].find? fun c => s.chanIdle c && (s.tr c).state ≠ .faulted with
      | some c => s.verifyBegin v c ((s.verifyLabels v).length)
      | none => verifyLook rest s
    | some place =>
      match s.extentLabel v.set place with
      | none => verifyLook rest s
      | some l =>
        match s.judgeVerifyCart l with
        | .ends => verifyLook rest (s.verifyEnd v .incomplete (some .noCartridge) false)
        | j =>
          match s.verifyChannel v j with
          | some c => s.verifyBegin v c place
          | none => verifyLook rest s

/-- The start test (R143): made while no entry is RUNNING. -/
def Ctl.verifyStart (s : Ctl) : Ctl := if s.verifyRunning.isSome then s else s.verifyLook s.verify.queue

/-- A RUNNING entry that waits for its cartridge has it judged again (R144). -/
def Ctl.verifyRejudge (s : Ctl) : Ctl :=
  match s.verifyRunning with
  | some v =>
    match v.waits, v.chan with
    | true, some c => s.verifyNext c
    | _, _ => s
  | none => s

end Sys2Proof.Machine
end

