-- ==== Sys2Proof/Machine/Restore.lean ====
section
/-! DEFINITION. The Restore Unit (chapter 9): the channel choice, claims, the search for the first record, delivery in DATA_IN frames, damage, the crossing to
another extent, and the ends. -/

namespace Sys2Proof.Machine

/-! ## The start block (R159) -/

/-- The index point a restore of record `r` starts from. -/
def SetRec.startPoint (x : SetRec) (r : Nat) : Option IndexPoint :=
  (x.index.filter fun p => p.record < r || (p.record = r && !p.cont)).getLast?

/-- The start block, with its extent's place in the list. -/
def SetRec.startPlace (x : SetRec) (r : Nat) : Option (Nat × Nat) :=
  (x.startPoint r).bind fun p => (x.extentOf p.block).map fun e => (p.block, e.1)

/-! ## Choosing a channel (R157) -/

/-- The choice made for a restore. -/
inductive ChannelChoice
  | waits
  | idle (c : Chan)
  | verifying (c : Chan)
  | yielding (c : Chan)
  deriving DecidableEq, Repr

/-- The channel whose write session has the cartridge as its current extent or chosen cartridge. -/
def Ctl.sessionUser (s : Ctl) (l : Label) : Option Chan :=
  [Chan.c0, Chan.c1].find? fun c => match s.session c with
    | some x => s.sessionUses x l
    | none => false

/-- A threaded cartridge: the transport is MOUNTED, or carrying out an order on it. -/
def TransportState.threaded : TransportState → Bool
  | .mounted => true
  | .moving => true
  | .reading => true
  | .writing => true
  | _ => false

/-- The channel runs a verify whose pause has not been asked, and no one has claimed it. -/
def Ctl.verifyTakable (s : Ctl) (c : Chan) : Bool :=
  (s.chan c).mode = .verify && (s.chan c).claim = none && match s.verifyOn c with
    | some v => !v.pauseAsked
    | none => false

/-- The channel's write session yields and is STREAMING, and no one has claimed it. -/
def Ctl.sessionTakable (s : Ctl) (c : Chan) : Bool :=
  (s.chan c).mode = .write && (s.chan c).claim = none && match s.session c with
    | some x => x.yield && x.state = .streaming
    | none => false

/-- The three steps for a cartridge in a slot or in M. -/
def Ctl.slotChoice (s : Ctl) (p : Requester) : ChannelChoice :=
  let ok := fun c => (s.tr c).state ≠ .faulted && !s.reservedByOther (some p) (.transport c)
  match [Chan.c0, Chan.c1].find? fun c => ok c && s.chanIdle c with
  | some c => .idle c
  | none =>
    match [Chan.c0, Chan.c1].find? fun c => ok c && s.verifyTakable c with
    | some c => .verifying c
    | none =>
      match [Chan.c0, Chan.c1].find? fun c => ok c && s.sessionTakable c with
      | some c => .yielding c
      | none => .waits

def Ctl.restoreChoice (s : Ctl) (r : RestoreCtx) : ChannelChoice :=
  match s.restoreLabel r with
  | none => .waits
  | some l =>
    match s.findLabel l with
    | none => .waits
    | some .gripper => .waits
    | some e =>
      let away : Bool := match s.sessionUser l with
        | some c => !(decide (s.labelIn c = some l) && (s.tr c).state.threaded)
        | none => false
      if away then .waits
      else
        match e with
        | .transport c =>
          if s.chanIdle c ∧ ((s.tr c).state = .mounted ∨ (s.tr c).state = .ejected) then .idle c
          else if s.verifyTakable c then .verifying c
          else if s.sessionTakable c ∧ s.sessionUser l = some c then .yielding c
          else .waits
        | _ => s.slotChoice (.link r.requester)

/-- A restore with a channel claims it (R158): an IDLE one is its own at once, a verify is asked to pause, a session to suspend. -/
def Ctl.restoreClaim (s : Ctl) (r : RestoreCtx) (c : Chan) : Ctl :=
  let s1 := s.setRestore { s.restore with running := s.restore.running ++ [{ r with state := .claiming, chan := some c }] }
  s1.setChan c { s1.chan c with claim := some (.restore r.id) }

/-- The choice is made for a restore that stands in no list: placed, or `none` when it must wait. -/
def Ctl.restoreTry (s : Ctl) (r : RestoreCtx) : Option Ctl :=
  match s.restoreChoice r with
  | .waits => none
  | .idle c => some ((s.restoreClaim r c).restoreBegin c r.id)
  | .verifying c => some ((s.restoreClaim r c).verifyAskPause c)
  | .yielding c => some ((s.restoreClaim r c).suspendAsk c)

/-- The look through the queue from the head (R156): each restore that can be placed leaves the queue. -/
def Ctl.restoreLook : List RestoreCtx → Ctl → Ctl
  | [], s => s
  | r :: rest, s =>
    let s1 := s.setRestore { s.restore with queue := s.restore.queue.filter fun q => q.id ≠ r.id }
    match s1.restoreTry r with
    | some s2 => restoreLook rest s2
    | none => restoreLook rest s

/-! ## Ending (R165) -/

/-- The first record not delivered: where the present damage began, else the record in delivery, else the next one. DESIGN CHOICE (log 90): records of a range told as damage before, which
a SKIP restore has passed over, do not count. -/
def RestoreCtx.firstLeft (r : RestoreCtx) : Nat := ((r.damage.map (·.1)).orElse fun _ => r.inDelivery).getD r.nextRec

def Ctl.dropRestore (s : Ctl) (id : Nat) : Ctl := s.setRestore { s.restore with running := s.restore.running.filter fun r => r.id ≠ id }

/-- A DATA_IN frame of the channel whose sending has not begun is withdrawn from the link port. DESIGN CHOICE (log 89): so R165 ends the restore's frames; one that has been begun goes out
whole, at once or after an outage (R178). -/
def Ctl.withdrawData (s : Ctl) (l : Link) (c : Chan) : Ctl := s.setLink l { s.link l with data := (s.link l).data.set c none }

/-- The displaced session's cartridge is still in the transport (R165). DEDUCED (log 85): for as long as it stands there, its owner's UNLOAD HOME raised or not. -/
def Ctl.holdsDisplaced (s : Ctl) (c : Chan) : Bool :=
  match s.session c with
  | some x => x.chosen.isSome && decide (s.labelIn c = x.chosen)
  | none => false

/-- The end of a restore that has left the queue (R165): UNLOAD HOME of its cartridge is raised on behalf of the requester, but for the displaced session's. -/
def Ctl.restoreEnd (s : Ctl) (r : RestoreCtx) (o : RestoreOutcome) (reason : Option Code) (unload : Bool) : Ctl :=
  let left := if o = .complete then none else some r.firstLeft
  let note := Notice.restoreDone r.id r.set o r.delivered r.damaged reason left
  match r.state, r.chan with
  | .claiming, some c =>
    let s1 := (s.dropRestore r.id).notifyLink r.requester note
    if (s1.chan c).claim = some (.restore r.id) then s1.suspendWithdrawn c else s1
  | _, some c =>
    let s1 := (s.withdraw fun q => q.raisedBy = some (.restoreUnit c)).disown (.restoreUnit c) unload
    let s2 := (s1.setTr c (s1.tr c).orphan).withdrawData r.requester c
    let s3 := s2.stopExpander c
    let s4 := if unload && !s3.holdsDisplaced c then s3.unloadHome c (some (.link r.requester)) none else s3
    let s5 := (s4.dropRestore r.id).notifyLink r.requester note
    (s5.setChan c { s5.chan c with drain := some { requester := .link r.requester, unload := false } }).finishDrain c
  | _, none => (s.dropRestore r.id).notifyLink r.requester note

/-- A suspension is refused back to the restore (R158): it chooses again, enters the queue, or ends FAILED with BUSY. -/
def Ctl.restoreRefused (s : Ctl) (id : Nat) : Ctl :=
  match s.restore? id with
  | some r =>
    let r1 := { r with state := .queued, chan := none, displaced := none }
    let s1 := s.dropRestore id
    match s1.restoreTry r1 with
    | some s2 => s2
    | none =>
      if Config.restoreRoom ≤ s1.restore.queue.length then s1.restoreEnd r1 .failed (some .busy) false
      else if r.wasQueued then s1.setRestore { s1.restore with queue := r1 :: s1.restore.queue }
      else s1.setRestore { s1.restore with queue := s1.restore.queue ++ [{ r1 with wasQueued := true }] }
  | none => s

/-! ## Frames (R162) -/

/-- A run of bytes of one record cut into frames of at most 4,096 bytes; the last one carries end-of-record when the run ends the record. -/
def cutRun (c : Chan) (rec : Nat) (ends : Bool) : Nat → List Byte → List OutData
  | 0, _ => []
  | n + 1, bs =>
    if bs = [] then []
    else
      let last : Bool := bs.length ≤ Config.frameBytes
      { frame := { chan := c, eor := last && ends, damaged := false, payload := bs.take Config.frameBytes },
        ended := if last && ends then some rec else none,
        within := if last && ends then none else some rec } :: cutRun c rec ends n (bs.drop Config.frameBytes)

def runFrames (c : Chan) (rec : Nat) (ends : Bool) (bs : List Byte) : List OutData := cutRun c rec ends (bs.length + 1) bs

/-- The frames of a block from offset `off`, where record `rec` stands, through the end of record `last` or of the block: `ends` are the record ends with the records
they end. -/
def cutBlock (c : Chan) (out : List Byte) (last : Nat) : List (Nat × Nat) → Nat → Nat → List OutData
  | [], off, rec => if rec ≤ last then runFrames c rec false (out.drop off) else []
  | (n, e) :: rest, off, rec =>
    if last < rec then []
    else if e ≤ off then cutBlock c out last rest off rec
    else runFrames c n true ((out.take e).drop off) ++ cutBlock c out last rest e (n + 1)

/-- The records a block's end list ends. -/
def TapeBlock.recordEnds (b : TapeBlock) : List (Nat × Nat) := b.ends.zipIdx.map fun p => (b.hdr.record + p.2, p.1)

/-- The oldest frame goes to the link transmitter, or waits for credit with the stall timer running. -/
def Ctl.restoreOffer (s : Ctl) (c : Chan) : Ctl :=
  match s.restoreOn c with
  | some r =>
    match r.frames with
    | f :: _ =>
      if r.sending then s
      else if 0 < r.credits then
        (s.modRestore r.id fun r => { r with sending := true, stall := false }).setLink r.requester ((s.link r.requester).offerData f.frame)
      else s.modRestore r.id fun r => { r with stall := true }
    | [] => s
  | none => s

/-! ## Damage, seeking and switching (R163, R164) -/

/-- Under SKIP the damage is noted, and a record in delivery is ended by one damaged frame. `lost` says that the rest of the extent is not read. -/
def Ctl.beginSkip (s : Ctl) (c : Chan) (r : RestoreCtx) (x : Option Extent) (reason : Code) (lost : Bool) : Ctl :=
  let r1 := { r with
    damage := some (r.inDelivery.getD r.nextRec, reason), runRec := none, judged := if r.state = .delivering then some r.expected else r.judged,
    expected := if lost then ((x.map Extent.after).getD r.expected) else r.expected,
    state := if r.inDelivery.isSome then .delivering else .seeking,
    frames := if r.inDelivery.isSome then [{ frame := { chan := c, eor := true, damaged := true, payload := [0#8] }, ended := none, within := none }] else [] }
  (s.modRestore r.id fun _ => r1).restoreOffer c

/-- The damaged range up to `last` is told, and counted (R163, step 5). -/
def Ctl.tellDamage (s : Ctl) (r : RestoreCtx) (last : Nat) : Ctl × RestoreCtx :=
  match r.damage with
  | some (d, reason) =>
    let r1 := { r with damage := none, damaged := r.damaged + (last + 1 - d) }
    ((s.modRestore r.id fun _ => r1).notifyLink r.requester (.restoreDamage r.id d last reason), r1)
  | none => (s, r)

/-- The extent a restore reads. -/
def Ctl.restoreExtent (s : Ctl) (r : RestoreCtx) : Option Extent := (s.cat.set? r.set).bind fun x => x.extents[r.extent]?

/-- The cartridge of the restore's extent is judged, loaded or waited for (R164). Extents with no blocks, and under SKIP extents whose cartridge is not to be had, are passed
over; past the last one a seek ends with the damage told, and a delivery meets damage. `fuel` exceeds the extents. DEDUCED (log 84): the UNLOAD HOME of a cartridge that stands in the other
channel's FAULTED transport is raised too, fails by R30, and is raised again when the cartridge is judged again. DEDUCED (log 92): one that stands in the
other channel's transport, that channel not IDLE, is waited for whatever the channel does. DEDUCED (log 22): the end of the data before the last record is damage with reason READ_FAULT. -/
def Ctl.restoreSwitch (c : Chan) : Nat → Ctl → Ctl
  | 0, s => s
  | n + 1, s =>
    match s.restoreOn c with
    | none => s
    | some r =>
      if r.inDelivery.isSome ∧ r.damage.isSome then s
      else
      match s.restoreExtent r with
      | none =>
        match r.damage with
        | some _ =>
          let (s1, r1) := s.tellDamage r r.last
          s1.restoreEnd r1 .complete none true
        | none =>
          if r.skip then restoreSwitch c n (s.beginSkip c r none .readFault true) else s.restoreEnd r .failed (some .readFault) true
      | some x =>
        if x.count = 0 then restoreSwitch c n (s.modRestore r.id fun r => { r with extent := r.extent + 1 })
        else
          let gone : Bool := match s.cat.cart? x.label with
            | some k => k.loc = none
            | none => true
          if gone then
            if r.damage.isSome then restoreSwitch c n (s.modRestore r.id fun r => { r with extent := r.extent + 1 })
            else if r.skip then restoreSwitch c n (s.beginSkip c r (some x) .noCartridge true)
            else s.restoreEnd r .failed (some .noCartridge) true
          else
            let r1 := { r with state := .switching }
            let s1 := s.modRestore r.id fun _ => r1
            if s1.labelIn c = some x.label then s1.restoreLoad c r1
            else if s1.usedBySession x.label ∨ s1.usedByVerify x.label ∨ s1.usedByRestore x.label (some r.id) ∨ s1.usedByRecovery x.label then s1
            else
              match s1.findLabel x.label with
              | some (.transport d) => if s1.chanIdle d then s1.raiseHome d (some (.link r.requester)) (some (.restoreUnit c)) else s1
              | some (.slot _) | some .mail =>
                match s1.session c with
                | some y =>
                  if y.chosen.isSome ∧ s1.labelIn c = y.chosen then
                    ((s1.unloadHome c (some y.req) (some (.chan c))).modSession c fun y => { y with unloaded := true }).restoreLoad c r1
                  else s1.restoreLoad c r1
                | none => s1.restoreLoad c r1
              | _ => s1

/-- The next extent is needed (R164). -/
def Ctl.restoreNextExtent (s : Ctl) (c : Chan) : Ctl :=
  match s.restoreOn c with
  | some r => (s.modRestore r.id fun r => { r with extent := r.extent + 1 }).restoreSwitch c 16
  | none => s

/-- The seek goes on at the following tape position, or in the next extent (R163). -/
def Ctl.seekContinue (s : Ctl) (c : Chan) : Ctl :=
  match s.restoreOn c with
  | some r =>
    let s1 := s.modRestore r.id fun r => { r with state := .seeking }
    match s.restoreExtent r with
    | some x => if x.after ≤ r.expected ∨ x.firstPos + x.count ≤ (s.tr c).pos then s1.restoreNextExtent c else s1.readBlock c .rRead
    | none => s1.restoreNextExtent c
  | none => s

/-- Damage is met (R163). -/
def Ctl.restoreDamaged (s : Ctl) (c : Chan) (reason : Code) (lost : Bool) : Ctl :=
  match s.restoreOn c with
  | some r =>
    if r.damage.isSome then if lost then s.restoreNextExtent c else s.seekContinue c
    else if r.skip then
      let s1 := s.beginSkip c r (s.restoreExtent r) reason lost
      if r.inDelivery.isSome then s1 else s1.seekContinue c
    else s.restoreEnd r .failed (some reason) true
  | none => s

/-! ## Reading -/

/-- The next block is read at the expected block's position, or the extent's range is finished (R161). -/
def Ctl.restoreReadNext (s : Ctl) (c : Chan) : Ctl :=
  match s.restoreOn c with
  | some r =>
    match s.restoreExtent r with
    | some x =>
      if x.after ≤ r.expected then s.restoreNextExtent c else s.readAt c (x.firstPos + (r.expected - x.firstBlock)) .rLocate .rRead
    | none => s.restoreNextExtent c
  | none => s

/-- The volume block has been read (R160, R164): the search begins at the start block, or reading goes on at the next extent's first position. -/
def Ctl.restoreVolRead (s : Ctl) (c : Chan) (res : ReadResult) : Ctl :=
  match s.restoreOn c with
  | some r =>
    if (match s.cartIn c with | some k => volumeCheck k res | none => false) then
      match s.restoreExtent r with
      | some x =>
        if r.state = .switching then
          (s.modRestore r.id fun r => { r with state := if r.damage.isSome then .seeking else .delivering, expected := x.firstBlock }).locate c x.firstPos .rLocate
        else (s.modRestore r.id fun r => { r with state := .searching }).locate c (x.firstPos + (r.expected - x.firstBlock)) .rLocate
      | none => s.restoreNextExtent c
    else (s.markUnknown c).restoreDamaged c .readFault true
  | none => s

/-- A data block of the restore's set on the mounted cartridge. -/
def Ctl.restoreBlock (s : Ctl) (r : RestoreCtx) (c : Chan) (res : ReadResult) : Option TapeBlock :=
  match res with
  | .good b =>
    if b.hdr.kind = 2 && b.hdr.set = r.set && (match s.cartIn c with | some k => b.hdr.belongs k | none => false) then some b else none
  | _ => none

/-- Where record `r` starts in a block, if it starts there (R160). -/
def TapeBlock.startOf (b : TapeBlock) (r : Nat) : Option Nat :=
  let f := b.hdr.record
  if f = r ∧ b.hdr.cont = false then some 0
  else if f < r then
    match b.ends[r - f - 1]? with
    | some o => if o < b.hdr.native then some o else none
    | none => none
  else none

/-- A block that has been read goes to the expander, its raw bytes in the coded buffer (R84, R161). -/
def Ctl.restoreExpand (s : Ctl) (c : Chan) (b : TapeBlock) : Ctl :=
  let s1 := s.startExpander c b
  s1.setChan c { s1.chan c with buf := .raw b }

/-- The search goes on with the next block, or has come to the end of the extent's window (R160). -/
def Ctl.searchNext (s : Ctl) (c : Chan) (r : RestoreCtx) : Ctl :=
  match s.restoreExtent r with
  | some x => if x.firstPos + x.count ≤ (s.tr c).pos then s.restoreDamaged c .readFault true else s.readBlock c .rRead
  | none => s.restoreDamaged c .readFault true

/-- A search block (R160): one that is used is judged, whatever it shows. -/
def Ctl.restoreSearch (s : Ctl) (c : Chan) (r : RestoreCtx) (res : ReadResult) : Ctl :=
  if res = .noBlock then s.restoreDamaged c .readFault true
  else
    match s.restoreBlock r c res with
    | some b =>
      let s1 := s.modRestore r.id fun r => { r with judged := some b.hdr.block }
      match b.startOf r.nextRec with
      | some o => (s1.modRestore r.id fun r => { r with state := .delivering, expected := b.hdr.block, startOff := o }).restoreExpand c b
      | none => if r.nextRec ≤ b.hdr.record then s1.restoreDamaged c .readFault false else s1.searchNext c r
    | none => s.searchNext c r

/-- A block read in DELIVERING: tests 1 to 3 of R161, then the expander. -/
def Ctl.restoreDeliver (s : Ctl) (c : Chan) (r : RestoreCtx) (res : ReadResult) : Ctl :=
  match s.restoreBlock r c res with
  | some b =>
    if b.hdr.block = r.expected ∧ (r.runRec.map fun n => decide (n = b.hdr.record)).getD true = true then
      (s.modRestore r.id fun r => { r with startOff := if r.runRec.isSome then 0 else r.startOff, judged := some b.hdr.block }).restoreExpand c b
    else s.restoreDamaged c .readFault false
  | none => s.restoreDamaged c .readFault (res = .noBlock)

/-- A block read in SEEKING: a readable one goes to the expander (R163, step 3). -/
def Ctl.restoreSeek (s : Ctl) (c : Chan) (r : RestoreCtx) (res : ReadResult) : Ctl :=
  if res = .noBlock then s.restoreNextExtent c
  else
    match s.restoreBlock r c res with
    | some b =>
      if (r.judged.map fun j => decide (j < b.hdr.block)).getD true then s.restoreExpand c b else s.seekContinue c
    | none => s.seekContinue c

def Ctl.restoreRead (s : Ctl) (c : Chan) (res : ReadResult) : Ctl :=
  match s.restoreOn c with
  | some r =>
    match r.state with
    | .searching => s.restoreSearch c r res
    | .delivering => s.restoreDeliver c r res
    | .seeking => s.restoreSeek c r res
    | _ => s
  | none => s

/-- THREADED: the volume block is read (R160). -/
def Ctl.restoreThreaded (s : Ctl) (c : Chan) : Ctl :=
  match s.restoreOn c with
  | some _ => s.readAt c 0 .rVolLocate .rVolRead
  | none => s

/-! ## Expanded blocks (R161 to R163) -/

/-- A good block is delivered from an offset where a record stands: its frames, and the place of the next block. -/
def Ctl.restoreSend (s : Ctl) (c : Chan) (r : RestoreCtx) (b : TapeBlock) (out : List Byte) (off rec : Nat) : Ctl :=
  let fs := cutBlock c out r.last b.recordEnds off rec
  (s.modRestore r.id fun _ => { r with
      state := .delivering, frames := fs, startOff := 0, expected := b.hdr.block + 1, runRec := some (b.hdr.record + b.hdr.ends),
      judged := some b.hdr.block }).restoreOffer c

/-- The first record after `d` that starts in a block, with its offset (R163, step 4). -/
def TapeBlock.firstStartAfter (b : TapeBlock) (d : Nat) : Option (Nat × Nat) :=
  let inner := (b.ends.zipIdx.map fun p => (b.hdr.record + p.2 + 1, p.1)).filter fun p => p.2 < b.hdr.native
  ((if b.hdr.cont then inner else (b.hdr.record, 0) :: inner).find? fun p => d < p.1)

/-- A readable block in SEEKING: the first in which a record after the damage starts ends the seek (R163, steps 4 to 6). -/
def Ctl.seekFound (s : Ctl) (c : Chan) (r : RestoreCtx) (b : TapeBlock) (out : List Byte) : Ctl :=
  match r.damage with
  | some (d, _) =>
    match b.firstStartAfter d with
    | some (m, o) =>
      let (s1, r1) := s.tellDamage r (min (m - 1) r.last)
      if m ≤ r.last then s1.restoreSend c { r1 with nextRec := m, inDelivery := none } b out o m else s1.restoreEnd r1 .complete none true
    | none => (s.modRestore r.id fun r => { r with judged := some b.hdr.block, runRec := some (b.hdr.record + b.hdr.ends) }).seekContinue c
  | none => s

/-- The expander's report to a restore, for a block it started on with dictionary slot `d` (R97, R161, R163): the restore keeps a fault's kind. The output stands in bank 0, or in the
LENT bank while a session is displaced. -/
def Ctl.restoreExpanded (s : Ctl) (c : Chan) (b : TapeBlock) (d : Option DictSlot) : Ctl :=
  match s.restoreOn c with
  | some r =>
    let e := expandWith d b
    let i : BankIx := match (s.session c).bind (·.kept) with
      | some k => k.other
      | none => .b0
    let s1 := (s.setBank c i (((s.chan c).bank i).output e.out)).stopExpander c
    let s2 := match e.fault with
      | some f => s1.modRestore r.id fun r => { r with lastFault := some f }
      | none => s1
    let good : Bool := e.fault.isNone && nativeMatches b e.out
    match r.state with
    | .delivering =>
      if good then
        if r.runRec.isSome then s2.restoreSend c r b e.out 0 b.hdr.record else s2.restoreSend c r b e.out r.startOff r.nextRec
      else s2.restoreDamaged c .codingFault false
    | .seeking => if good then s2.seekFound c r b e.out else (s2.modRestore r.id fun r => { r with judged := some b.hdr.block }).seekContinue c
    | _ => s2
  | none => s.stopExpander c

/-! ## Frames sent (R162, R163) -/

/-- Every frame of a block has been sent: the seek begins, the restore is COMPLETE, or the next block is read. -/
def Ctl.restoreBlockDone (s : Ctl) (c : Chan) (r : RestoreCtx) : Ctl :=
  if r.damage.isSome then s.seekContinue c
  else if r.last < r.nextRec ∧ r.inDelivery = none then s.restoreEnd r .complete none true
  else s.restoreReadNext c

/-- A DATA_IN frame has gone out on a link (R162). A frame of a restore that has ended in the meantime counts for nothing. -/
def Ctl.restoreFrameSent (s : Ctl) (l : Link) (d : DataIn) : Ctl :=
  match s.restoreOn d.chan with
  | some r =>
    match r.frames with
    | f :: rest =>
      if r.requester = l ∧ r.sending = true ∧ f.frame = d ∧ (s.link l).data.get d.chan = none then
        let r1 := { r with
          frames := rest, sending := false, credits := r.credits - 1, delivered := r.delivered + (if f.ended.isSome then 1 else 0),
          inDelivery := f.within,
          nextRec := match f.ended, f.within with
            | some n, _ => n + 1
            | none, some n => n + 1
            | none, none => r.nextRec }
        let s1 := s.modRestore r.id fun _ => r1
        if rest = [] then s1.restoreBlockDone d.chan r1 else s1.restoreOffer d.chan
      else s
    | [] => s
  | none => s

/-- Receive credits arrive for a restore (R162). -/
def Ctl.restoreCredit (s : Ctl) (l : Link) (c : Chan) (n : Nat) : Ctl :=
  match s.restoreOn c with
  | some r =>
    if r.requester = l then
      (s.modRestore r.id fun r => { r with credits := min Config.receiveCreditMax (r.credits + n), stall := if n = 0 then r.stall else false }).restoreOffer c
    else s
  | none => s

/-! ## Faults and loads -/

/-- A FAULT has answered an order of a restore (R160, R163). -/
def Ctl.restoreFault (s : Ctl) (c : Chan) (media : Bool) : Ctl :=
  match s.restoreOn c with
  | some r => if media then s.restoreDamaged c .mediaFault true else s.restoreEnd r .failed (some .readFault) false
  | none => s

def Ctl.restoreLoadFailed (s : Ctl) (c : Chan) (reason : Code) : Ctl :=
  match s.restoreOn c with
  | some r => s.restoreEnd r .failed (some reason) true
  | none => s

/-- The restore's orders are still in the Move Queue. -/
def Ctl.restoreOrders (s : Ctl) (c : Chan) : Bool := (s.picker.queue ++ s.picker.held).any fun o => o.raisedBy = some (.restoreUnit c)

/-- A restore waiting in SWITCHING has its cartridge judged again (R164); one in LOADING whose cartridge stands in the transport goes on with it (log 52). -/
def Ctl.restoreRejudge (s : Ctl) (c : Chan) : Ctl :=
  match s.restoreOn c with
  | some r =>
    if (s.tr c).activityOrder = false ∧ s.restoreOrders c = false then
      match r.state with
      | .switching => s.restoreSwitch c 16
      | .loading => if s.labelIn c = s.restoreLabel r then s.restoreLoad c r else s
      | _ => s
    else s
  | none => s

/-- What waits for a cartridge is judged again: restores in SWITCHING and a verify entry (R144, R164). -/
def Ctl.judgeWaiting (s : Ctl) : Ctl := ((s.restoreRejudge .c0).restoreRejudge .c1).verifyRejudge

end Sys2Proof.Machine
end

