-- ==== Sys2Proof/Machine/Recovery.lean ====
section
/-! DEFINITION. The Store Controller's work: checkpoints and the flash (10.2), the load of an image (10.3), and the recovery of a cartridge from tape (10.4). -/

namespace Sys2Proof.Machine

/-! ## Loading an image (R79, R170) -/

/-- A good image is loaded whole: the settings, the dictionaries and the catalog, settled by R79. -/
def Ctl.loadImage (s : Ctl) (i : Image) : Ctl :=
  { s with
    inv := { s.inv with protect := i.protect }
    climate := { s.climate with watches := i.watches, interval := i.interval, acclimation := i.acclimation }
    verify := { s.verify with policies := i.policies }
    dicts := i.dicts
    cat := i.catalog.settle
    store := { s.store with auto := i.auto, state := if i.catalog.settle = i.catalog then .clean else .dirty } }

/-! ## Checkpoints (R168, R169) -/

def Ctl.notifyEach (s : Ctl) (ps : List Requester) (n : Notice) : Ctl := ps.foldl (fun s p => s.notify p n) s

/-- The image area is read for a RELOAD (R171, step 3). -/
def Ctl.startImageRead (s : Ctl) : Ctl := s.setStore { s.store with op := .read, reload := .reading }

/-- A pending request starts the next checkpoint (R169). -/
def Ctl.startPending (s : Ctl) : Ctl :=
  if s.store.pending then
    (s.setStore { s.store with pending := false, nextServed := [] }).startCheckpoint s.store.nextServed
  else s

/-- After a checkpoint: a RELOAD that waits for it reads the image; otherwise a pending request starts the next one (R169, R171). DESIGN CHOICE: a request taken while the
RELOAD waits stays pending until the RELOAD has ended. -/
def Ctl.afterCheckpoint (s : Ctl) : Ctl :=
  if s.store.reload = .waiting then s.startImageRead
  else s.startPending

/-- The commit mark has been programmed (R168, step 4). -/
def Ctl.checkpointDone (s : Ctl) : Ctl :=
  let st := s.store
  let s1 := s.setStore { st with state := if st.changed then .dirty else .clean, changed := false, snapshot := none, op := .none, served := [], flash := st.snapshot }
  (s1.notifyEach st.served (.checkpointDone true)).afterCheckpoint

/-- A flash error stops the checkpoint (R168). -/
def Ctl.checkpointFailed (s : Ctl) : Ctl :=
  let st := s.store
  let s1 := s.setStore { st with state := .failed, changed := false, snapshot := none, op := .none, served := [] }
  ((s1.notifyAll .checkpointFailed).notifyEach st.served (.checkpointDone false)).afterCheckpoint

/-! ## Recovery (R172, R173) -/

def Ctl.recoveryOn (s : Ctl) (c : Chan) : Option Recovery := s.store.recovery.filter fun r => r.chan = c

def Ctl.modRecovery (s : Ctl) (f : Recovery → Recovery) : Ctl := s.setStore { s.store with recovery := s.store.recovery.map f }

/-- The end of a recovery (R172): its orders are withdrawn, the cartridge unloaded where `unload` says so, the claim released, and what waits for a cartridge judged again. -/
def Ctl.recoveryEnd (s : Ctl) (r : Recovery) (o : RecoverOutcome) (rebuilt left : Nat) (reason : Option Code) (unload : Bool) : Ctl :=
  let s1 := (s.withdraw fun q => q.raisedBy = some .storeController).disown .storeController unload
  let s2 := s1.setTr r.chan (s1.tr r.chan).orphan
  let ours : Bool := unload && decide (s2.labelIn r.chan = some r.label)
  let s3 := if ours then s2.unloadHome r.chan (some r.requester) none else s2
  let s4 := s3.setChan r.chan { s3.chan r.chan with claim := none, drain := some { requester := r.requester, unload := false } }
  let s5 := (s4.setStore { s4.store with recovery := none }).notify r.requester (.recoverDone r.label o rebuilt left reason)
  ((s5.finishDrain r.chan).rechooseAll).judgeWaiting

def Ctl.recoveryThreaded (s : Ctl) (c : Chan) : Ctl := s.readAt c 0 .cVolLocate .cVolRead

/-- The volume block of the recovery (R172). DEDUCED (log 38): its label and its generation are the payload's, should the header's differ. DEDUCED (log 75): a tape that was never written is unloaded, as after any other scan (R28). -/
def Ctl.recoveryVolRead (s : Ctl) (c : Chan) (res : ReadResult) : Ctl :=
  match s.recoveryOn c with
  | some r =>
    match res with
    | .noBlock => (s.setCartState r.label .blank).recoveryEnd r .ok 0 0 none true
    | .good b =>
      if b.hdr.kind = 1 then
        if b.payload.take 8 = padLabel r.label then (s.modRecovery fun r => { r with gen := numAt b.payload 9 2, pos := 1 }).readBlock c .cRead
        else s.recoveryEnd r .failed 0 0 (some .mismatch) true
      else s.recoveryEnd r .failed 0 0 (some .readFault) true
    | _ => s.recoveryEnd r .failed 0 0 (some .readFault) true
  | none => s

/-- A set a scan has rebuilt replaces a TRUNCATED one whose extents are its first ones (R173). -/
def SetRec.completes (new old : SetRec) : Bool := old.state = .truncated && old.extents.isPrefixOf new.extents

/-- One rebuilt set is applied to the catalog (R173): `none` where it is left out. -/
def Catalog.takeIn (k : Catalog) (r : SetRec) : Option Catalog :=
  let counted : Catalog → Catalog := fun k => if k.nextSetId ≤ r.id then { k with nextSetId := wrapNext Config.lastSetId r.id } else k
  match k.set? r.id with
  | some old => if r.completes old then some (counted (k.modSet r.id fun _ => r)) else none
  | none => if Config.setRoom ≤ k.sets.length then none else some (counted { k with sets := insertSet r k.sets })

/-- The rebuilt sets are applied in tape order: the catalog, the ids taken in, and the ids left out. -/
def applySets : List SetRec → Catalog → List Nat → List Nat → Catalog × List Nat × List Nat
  | [], k, ins, outs => (k, ins, outs)
  | r :: rest, k, ins, outs =>
    match k.takeIn r with
    | some k' => applySets rest k' (if r.id ∈ ins then ins else ins ++ [r.id]) outs
    | none => applySets rest k ins (outs ++ [r.id])

/-- The cartridge record a recovery leaves (R173). DESIGN CHOICE (log 93): the capacity of class UNSUPPORTED, which has none (R131), is taken as 0, so that its frames used are 0 and its
early-warning passed no. -/
def Cart.recovered (k : Cart) (r : Recovery) (ins : List Nat) (left : Bool) : Cart :=
  let frames := min (1 + r.keptFrames) (classOf k.label).capacity
  let early : Bool := (classOf k.label).warning < frames
  { k with generation := r.gen, eod := r.eod, frames := frames, native := r.keptNative, coded := r.keptCoded, early := early, sets := ins,
           state := if early || decide (Config.setListRoom ≤ ins.length) || left then .full else .opened }

/-- The scan ends, and its results are applied together (R173). -/
def Ctl.recoveryApply (s : Ctl) (r : Recovery) : Ctl :=
  let (k, ins, outs) := applySets r.sets s.cat [] []
  let s1 := s.putCat (k.modCart r.label fun c => c.recovered r ins (!outs.isEmpty || !r.leftOut.isEmpty))
  let s2 := outs.foldl (fun s id => s.notify r.requester (.recoverConflict r.label id)) s1
  s2.recoveryEnd r .ok ins.length (outs.length + r.leftOut.length) none true

/-- A block of the scan belongs to the cartridge of the volume block just read (R173). -/
def Recovery.owns (r : Recovery) (h : Header) : Bool := h.label = padLabel r.label && h.generation = r.gen && h.passTag = r.gen % 4

/-- The cost of a block read in a scan (R131): a volume or summary block costs 1 frame. -/
def TapeBlock.cost (b : TapeBlock) : Nat := if b.hdr.kind = 2 then blockCost b.hdr.coded b.hdr.ends else 1

/-- A summary block closes a set (R173): what has been read so far lies below the end-of-data. -/
def Recovery.summary (r : Recovery) (b : TapeBlock) (pos : Nat) : Recovery :=
  let frames := r.frames + 1
  let x := r.notes.foldl SetRec.noteIndex (readSummary b)
  let r1 := { r with frames := frames, keptFrames := frames, keptNative := r.native, keptCoded := r.coded, eod := pos, notes := [] }
  if r.sets.length < Config.recoverRoom then { r1 with sets := r.sets ++ [x] } else { r1 with leftOut := r.leftOut ++ [x.id] }

/-- A data block's header is noted (R173). -/
def Recovery.note (r : Recovery) (b : TapeBlock) : Recovery :=
  { r with frames := r.frames + b.cost, native := r.native + b.hdr.native, coded := r.coded + b.hdr.coded,
           notes := r.notes ++ [{ set := b.hdr.set, block := b.hdr.block, record := b.hdr.record, cont := b.hdr.cont }] }

/-- The scan goes on to the next position. -/
def Ctl.recoveryNext (s : Ctl) (c : Chan) (r : Recovery) : Ctl := (s.modRecovery fun _ => { r with pos := (s.tr c).pos }).readBlock c .cRead

/-- A block of the scan (R173). -/
def Ctl.recoveryRead (s : Ctl) (c : Chan) (res : ReadResult) : Ctl :=
  match s.recoveryOn c with
  | some r =>
    match res with
    | .noBlock => s.recoveryApply r
    | .good b =>
      if r.owns b.hdr then
        if b.hdr.kind = 2 then s.recoveryNext c (r.note b)
        else if b.hdr.kind = 3 then
          let s1 := if r.sets.length < Config.recoverRoom then s else s.notify r.requester (.recoverConflict r.label (readSummary b).id)
          s1.recoveryNext c (r.summary b (s.tr c).pos)
        else s.recoveryNext c { r with frames := r.frames + b.cost }
      else s.recoveryApply r
    | _ => s.recoveryNext c { r with frames := r.frames + Config.lostBlockFrames }
  | none => s

/-- A FAULT has answered an order of the recovery (R172). -/
def Ctl.recoveryFault (s : Ctl) (c : Chan) (media : Bool) : Ctl :=
  match s.recoveryOn c with
  | some r => if media then s.recoveryEnd r .failed 0 0 (some .mediaFault) true else s.recoveryEnd r .failed 0 0 (some .readFault) false
  | none => s

def Ctl.recoveryLoadFailed (s : Ctl) (reason : Code) : Ctl :=
  match s.store.recovery with
  | some r => s.recoveryEnd r .failed 0 0 (some reason) true
  | none => s

/-- A recovery whose cartridge stands in its transport, and that waits for another order's report there, goes on with it (log 52). -/
def Ctl.recoveryRejudge (s : Ctl) (c : Chan) : Ctl :=
  match s.recoveryOn c with
  | some r =>
    if (s.tr c).activityOrder = false ∧ s.labelIn c = some r.label ∧ ((s.picker.queue ++ s.picker.held).any fun o => o.raisedBy = some .storeController) = false then
      s.bringIn c .cThread .cVolLocate .cVolRead
    else s
  | none => s

/-- What waits on a channel for another order's report goes on (log 52). -/
def Ctl.rejudgeOn (s : Ctl) (c : Chan) : Ctl :=
  let s1 := (s.restoreRejudge c).recoveryRejudge c
  if (s1.verifyOn c).isSome then s1.verifyRejudge else s1

end Sys2Proof.Machine
end

