-- ==== Sys2Proof/Machine/Refused.lean ====
section
/-! DEFINITION. Which activity a failed transport order belongs to (R128), the answers to orders that a transport does not take (R129), and a suspension that a span
refuses (R118, R158). -/

namespace Sys2Proof.Machine

/-- The EJECT before an activity's LOAD has failed for the activity on the channel, as any order of its own would (R111, R149, R165). An activity that is not loading has none to
lose. -/
def Ctl.ejectFault (s : Ctl) (c : Chan) : Ctl :=
  match (s.chan c).mode with
  | .verify => s.verifyFault c false
  | .restore =>
    match s.restoreOn c with
    | some r => if r.state = .loading ∨ r.state = .switching then s.restoreFault c false else s
    | none => s
  | .write =>
    match s.session c with
    | some x => if x.state = .loading ∨ x.state = .spanning ∨ x.state = .resuming then s.prepareBroken c else s
    | none => s
  | .idle => s.recoveryFault c false

/-- The activity that an order belongs to is told that it has failed. -/
def Ctl.faultFor (s : Ctl) (c : Chan) (k : Task) (media : Bool) : Ctl :=
  match k with
  | .vThread | .vVolLocate | .vVolRead | .vLocate | .vRead => s.verifyFault c media
  | .rThread | .rVolLocate | .rVolRead | .rLocate | .rRead => s.restoreFault c media
  | .cThread | .cVolLocate | .cVolRead | .cLocate | .cRead => s.recoveryFault c media
  | .eject => if media then s else s.ejectFault c
  | .plainThread | .dropped => s
  | _ => s.sessionFault c k media

/-! ## Orders a transport does not take (R129) -/

/-- An order that the transport did not take is answered at once: FAULT with HARDWARE_FAULT in FAULTED, and with MEDIA_FAULT in any other state, which touches neither the transport nor the
cartridge's record. -/
def Ctl.answerRefused (s : Ctl) (c : Chan) : Ctl :=
  match (s.tr c).rejected with
  | some k => ((s.setTr c { s.tr c with rejected := none }).faultFor c k ((s.tr c).state ≠ .faulted)).finishDrains
  | none => s

/-- A transport has no order left that it did not take. -/
def Ctl.noneRefused (s : Ctl) : Bool := (s.tr .c0).rejected.isNone && (s.tr .c1).rejected.isNone

/-- Whatever is left is dropped. -/
def Ctl.clearRefused (s : Ctl) : Ctl := (s.setTr .c0 { s.tr .c0 with rejected := none }).setTr .c1 { s.tr .c1 with rejected := none }

/-- The answers are given until none is due; what an answer leads to may be refused in turn. `fuel` exceeds the orders that one command can make the activities send. -/
def Ctl.answerAll : Nat → Ctl → Ctl
  | 0, s => s.clearRefused
  | n + 1, s => if s.noneRefused then s else answerAll n ((s.answerRefused .c0).answerRefused .c1)

def Ctl.answerRefusals (s : Ctl) : Ctl := s.answerAll 64

/-! ## A RELOAD that waits for the sessions it has aborted (R171) -/

/-- Steps 2 and 3 of a RELOAD: the pending flag becomes no, and the image is read once no checkpoint is SAVING. DESIGN CHOICE (log 74): the requesters of a pending checkpoint are told
nothing. -/
def Ctl.reloadCheckpoint (s : Ctl) : Ctl :=
  let s1 := s.setStore { s.store with pending := false, nextServed := [] }
  if s1.store.state = .saving then s1.setStore { s1.store with reload := .waiting } else s1.startImageRead

/-- Once no session is ABORTING, the RELOAD goes on: to step 2, or to its image again. -/
def Ctl.reloadGoesOn (s : Ctl) : Ctl :=
  if s.aborting then s
  else
    match s.store.reload with
    | .ending => s.reloadCheckpoint
    | .again => s.startImageRead
    | _ => s

/-- What is due when a command ends. -/
def Ctl.commandEnd (s : Ctl) : Ctl := s.answerRefusals.reloadGoesOn

/-- A command that may send orders to a transport or end a session: what is then due follows before it ends. -/
def State.act (s : State) (f : Ctl → Ctl) : Host.Outcome State Fault Refusal := s.run fun k => (f k).commandEnd

/-! ## A suspension refused by a span (R118) -/

/-- A span has been ordered for a SUSPENDING session, whose bank is RETAINED: the restore's claim is released and it acts as R158 states, then SESSION_RESUMED is sent and the span
begins. -/
def Ctl.refuseSuspension (s : Ctl) (c : Chan) : Ctl :=
  match s.session c with
  | some x =>
    if x.state = .suspending ∧ (s.chan c).anyBank (· = .retained) = true then
      let s1 := s.setChan c { s.chan c with claim := none }
      let s2 := match (s.chan c).claim with
        | some (.restore id) => s1.restoreRefused id
        | _ => s1
      (s2.notify x.req (.sessionResumed x.setId)).beginSpan c
    else s
  | none => s

end Sys2Proof.Machine
end

