-- ==== Sys2Proof/Machine/CatalogRequests.lean ====
section
/-! DEFINITION. The requests of chapters 4 and 5: READ_CARTRIDGE, READ_SET, LIST_SETS, EXPIRE_SET, SET_RETENTION, RECLAIM, FORGET_CARTRIDGE, WRITE_DICTIONARY and
READ_DICTIONARY. -/

namespace Sys2Proof.Machine

/-! ## Reading the catalog (R75 to R77) -/

def Ctl.answerReadCartridge (s : Ctl) (p : Requester) (tag : Nat) (l : Label) : Ctl :=
  match s.cat.cart? l with
  | some c => s.respond p tag .ok (.cartridge c (classOf c.label) (ratio c.native c.coded) c.estimate)
  | none => s.respond p tag .notFound

def execReadCartridge (p : Requester) (l : Label) (s : State) : Host.Outcome State Fault Refusal :=
  s.run fun k => k.takeRequest p (.readCartridge l) fun tag k => k.answerReadCartridge p tag l

/-- READ_SET's SUMMARY (R76). -/
def SetRec.summaryAnswer (r : SetRec) : SummaryAnswer :=
  { id := r.id, owner := r.owner, state := r.state, writtenDay := r.writtenDay, retention := r.retention, dict := r.dict, dictGen := r.dictGen,
    extents := r.extents, blocks := r.blocks, records := r.records, native := r.native, coded := r.coded, ratio := ratio r.native r.coded,
    indexPoints := r.index.length, interval := r.interval, verify := r.verify, passes := r.passes, bad := r.bad, badList := r.badList, badMore := r.badMore }

/-- READ_SET (R76). DESIGN CHOICE (log 56): a set id with no record is answered before a first entry above 63 or a part of neither kind. -/
def Ctl.answerReadSet (s : Ctl) (p : Requester) (tag set : Nat) (part : SetPart) : Ctl :=
  match s.cat.set? set with
  | none => s.respond p tag .notFound
  | some r =>
    match part with
    | .summary => s.respond p tag .ok (.setSummary r.summaryAnswer)
    | .index first =>
      if 63 < first then s.respond p tag .badArgument else s.respond p tag .ok (.setIndex ((r.index.drop first).take 16) r.index.length)
    | .other _ => s.respond p tag .badArgument

def execReadSet (p : Requester) (set : Nat) (part : SetPart) (s : State) : Host.Outcome State Fault Refusal :=
  s.run fun k => k.takeRequest p (.readSet set part) fun tag k => k.answerReadSet p tag set part

/-- The ids that pass a filter, in ascending order, or the answer that refuses the filter (R77). -/
def Ctl.filterSets (s : Ctl) (f : SetFilter) : Except Code (List Nat) :=
  match f with
  | .all => .ok (s.cat.sets.map (·.id))
  | .owner n =>
    match linkOf n with
    | some l => .ok ((s.cat.sets.filter fun r => r.owner = l).map (·.id))
    | none => .error .badArgument
  | .cartridge l =>
    match s.cat.cart? l with
    | some c => .ok ((s.cat.sets.filter fun r => r.id ∈ c.sets).map (·.id))
    | none => .error .notFound
  | .other _ => .error .badArgument

/-- LIST_SETS (R77). DESIGN CHOICE (log 56): a filter that is refused is answered before a start id above 65,535. -/
def Ctl.answerListSets (s : Ctl) (p : Requester) (tag : Nat) (f : SetFilter) (start : Nat) : Ctl :=
  match s.filterSets f with
  | .error c => s.respond p tag c
  | .ok ids =>
    if Config.lastSetId < start then s.respond p tag .badArgument
    else
      let from' := ids.filter fun i => max 1 start ≤ i
      s.respond p tag .ok (.setIds (from'.take 16) (decide (16 < from'.length)))

def execListSets (p : Requester) (f : SetFilter) (start : Nat) (s : State) : Host.Outcome State Fault Refusal :=
  s.run fun k => k.takeRequest p (.listSets f start) fun tag k => k.answerListSets p tag f start

/-! ## Retention and expiry (R70, R71) -/

/-- The requester may act on a set: the panel, or the owner. -/
def SetRec.mayAct (r : SetRec) (p : Requester) : Bool := p = .panel || p = .link r.owner

/-- Some restore of the set is running or waiting. -/
def Ctl.setRestoring (s : Ctl) (set : Nat) : Bool := (s.restore.queue ++ s.restore.running).any fun r => r.set = set

/-- EXPIRE_SET's table (R70) for a set that exists, and whether the set is to become EXPIRED. -/
def Ctl.expireAnswer (s : Ctl) (p : Requester) (r : SetRec) (today : Nat) : Code × Bool :=
  if r.mayAct p = false then (.notOwner, false)
  else if r.state = .opening ∨ r.state = .writing then (.wrongState, false)
  else if r.state = .expired then (.ok, false)
  else if s.setRestoring r.id then (.inUse, false)
  else if r.runOut today then (.ok, true)
  else if p ≠ .panel then (.retentionHeld, false)
  else if s.inv.key = .lock then (.keyLocked, false)
  else (.ok, true)

/-- The set becomes EXPIRED, and its verify entry leaves the queue (R70). -/
def Ctl.expire (s : Ctl) (set : Nat) : Ctl :=
  let s1 := s.modSet set fun r => { r with state := .expired }
  let s2 := match s1.verifyOf set with
    | some v => s1.verifyStop v .cancelled true
    | none => s1
  s2.autoCheckpoint

def Ctl.answerExpireSet (s : Ctl) (p : Requester) (tag set today : Nat) : Ctl :=
  match s.cat.set? set with
  | none => s.respond p tag .notFound
  | some r =>
    let a := s.expireAnswer p r today
    let s1 := s.respond p tag a.1
    if a.2 then s1.expire set else s1

def execExpireSet (p : Requester) (set today : Nat) (s : State) : Host.Outcome State Fault Refusal :=
  s.act fun k => k.takeRequest p (.expireSet set today) fun tag k => k.answerExpireSet p tag set today

/-- The answer to a shortened retention (R71), from the owner, and from the panel by the key. -/
def Ctl.shortenAnswer (s : Ctl) (p : Requester) : Code :=
  if p ≠ .panel then .retentionHeld else if s.inv.key = .lock then .keyLocked else .ok

def Ctl.answerSetRetention (s : Ctl) (p : Requester) (tag set days : Nat) : Ctl :=
  match s.cat.set? set with
  | none => s.respond p tag .notFound
  | some r =>
    if r.mayAct p = false then s.respond p tag .notOwner
    else if r.state = .expired then s.respond p tag .setExpired
    else
      let d := clampRetention days
      let code := if d < r.retention then s.shortenAnswer p else .ok
      let kept := if code = .ok then d else r.retention
      let s1 := s.respond p tag code (.stored kept)
      if kept = r.retention then s1 else s1.modSet set fun r => { r with retention := kept }
where
  /-- Days clamped to 0 to 3,650 (R69). -/
  clampRetention (n : Nat) : Nat := min n Config.maxRetention

def execSetRetention (p : Requester) (set days : Nat) (s : State) : Host.Outcome State Fault Refusal :=
  s.run fun k => k.takeRequest p (.setRetention set days) fun tag k => k.answerSetRetention p tag set days

/-! ## RECLAIM and FORGET_CARTRIDGE (R72 to R74) -/

/-- RECLAIM's table (R72) for a cartridge that has a record. -/
def Ctl.reclaimAnswer (s : Ctl) (p : Requester) (c : Cart) : Code :=
  if c.state = .blank ∨ c.state = .scratch then .wrongState
  else if s.entryProtected (s.entryOf c.label) then .isProtected
  else if s.inUse c.label then .inUse
  else if s.cat.allExpired c.sets = false then .retentionHeld
  else if c.state = .unknown ∧ ¬(p = .panel ∧ s.inv.key = .opened) then .keyLocked
  else .ok

/-- The record of a reclaimed cartridge (R73, steps 2 to 5). -/
def Cart.reclaimed (c : Cart) : Cart :=
  { c with sets := [], generation := wrapNext Config.lastSetId c.generation, frames := 0, eod := 1, early := false, native := 0, coded := 0, state := .scratch }

/-- R73, in its order. -/
def Ctl.reclaim (s : Ctl) (l : Label) : Ctl := (s.putCat ((s.cat.dropExtents l).modCart l Cart.reclaimed)).rechooseAll.autoCheckpoint

def Ctl.answerReclaim (s : Ctl) (p : Requester) (tag : Nat) (l : Label) : Ctl :=
  match s.cat.cart? l with
  | none => s.respond p tag .notFound
  | some c =>
    let code := s.reclaimAnswer p c
    let s1 := s.respond p tag code
    if code = .ok then s1.reclaim l else s1

def execReclaim (p : Requester) (l : Label) (s : State) : Host.Outcome State Fault Refusal :=
  s.run fun k => k.takeRequest p (.reclaim l) fun tag k => k.answerReclaim p tag l

/-- FORGET_CARTRIDGE's table (R74). -/
def Ctl.forgetAnswer (s : Ctl) (c : Cart) : Code :=
  if c.loc ≠ none then .wrongState else if s.cat.allExpired c.sets = false then .retentionHeld else .ok

/-- A cartridge's record is deleted, with its extents, and a waiting cartridge admitted (R59, R74). -/
def Ctl.forget (s : Ctl) (l : Label) : Ctl :=
  let k := s.cat.dropExtents l
  (s.putCat { k with carts := k.carts.filter fun c => c.label ≠ l }).admitWaiting

def Ctl.answerForget (s : Ctl) (p : Requester) (tag : Nat) (l : Label) : Ctl :=
  match s.cat.cart? l with
  | none => s.respond p tag .notFound
  | some c =>
    let code := s.forgetAnswer c
    let s1 := s.respond p tag code
    if code = .ok then s1.forget l else s1

def execForgetCartridge (p : Requester) (l : Label) (s : State) : Host.Outcome State Fault Refusal :=
  s.run fun k => k.takeRequest p (.forgetCartridge l) fun tag k => k.answerForget p tag l

/-! ## Dictionaries (R82, R83) -/

def Ctl.dictReferenced (s : Ctl) (slot : Nat) : Bool := s.cat.references slot (s.dicts.gen slot)

def Ctl.answerWriteDictionary (s : Ctl) (p : Requester) (tag slot : Nat) (bytes : List Byte) : Ctl :=
  if slot = 0 ∨ 3 < slot ∨ Config.dictBytes < bytes.length then s.respond p tag .badArgument
  else if s.dictReferenced slot then s.respond p tag .dictionaryInUse
  else
    let d := s.dicts.write slot bytes
    ((s.respond p tag .ok (.generation (d.gen slot))).setDicts d).changed

def execWriteDictionary (p : Requester) (slot : Nat) (bytes : List Byte) (s : State) : Host.Outcome State Fault Refusal :=
  s.run fun k => k.takeRequest p (.writeDictionary slot bytes) fun tag k => k.answerWriteDictionary p tag slot bytes

def Ctl.answerReadDictionary (s : Ctl) (p : Requester) (tag slot : Nat) : Ctl :=
  match s.dicts.slot? slot with
  | some x => s.respond p tag .ok (.dictionary x.generation x.bytes.length x.bytes (s.dictReferenced slot))
  | none => s.respond p tag .badArgument

def execReadDictionary (p : Requester) (slot : Nat) (s : State) : Host.Outcome State Fault Refusal :=
  s.run fun k => k.takeRequest p (.readDictionary slot) fun tag k => k.answerReadDictionary p tag slot

end Sys2Proof.Machine
end

