-- ==== Sys2Proof/Machine/ClimateCommands.lean ====
section
/-! DEFINITION. The commands of chapter 3: the settings and reads of the Climate Monitor, the sample interval, the sensor's answers, and the minute timer. -/

namespace Sys2Proof.Machine

/-! ## Settings (R47, R48, R54) -/

def watchOf (n : Nat) : Option WatchId :=
  match n with
  | 0 => some .w1
  | 1 => some .w2
  | _ => none

def quantityOf (n : Nat) : Option Quantity :=
  match n with
  | 0 => some .temperature
  | 1 => some .humidity
  | _ => none

def directionOf (n : Nat) : Option Direction :=
  match n with
  | 0 => some .above
  | 1 => some .below
  | _ => none

def actionOf (n : Nat) : Option WatchAction :=
  match n with
  | 0 => some .notify
  | 1 => some .hold
  | _ => none

/-- A SET_WATCH's watch and setting fields, its threshold clamped to its quantity's range (R47): `none` where one is not one of its values. -/
def watchArgs (w en q : Nat) (thr : Int) (dir act : Nat) : Option (WatchId × Watch) :=
  match watchOf w, yesOf en, quantityOf q, directionOf dir, actionOf act with
  | some w, some en, some q, some dir, some act =>
    some (w, { enabled := en, quantity := q, threshold := q.clamp thr, direction := dir, action := act })
  | _, _, _, _, _ => none

/-- A watch's five setting fields are replaced, its result cleared, the change reported, sampling restarted with it and the hold judged (R47). -/
def Ctl.rewriteWatch (s : Ctl) (w : WatchId) (x : Watch) : Ctl :=
  let s1 := (s.setClimate { s.climate with watches := s.climate.watches.set w x }).setResult w .initial
  ((s1.changed).restartSampling w).judgeHold

def Ctl.answerSetWatch (s : Ctl) (p : Requester) (tag w en q : Nat) (thr : Int) (dir act : Nat) : Ctl :=
  match watchArgs w en q thr dir act with
  | some (w, x) => (s.respond p tag .ok (.threshold x.threshold)).rewriteWatch w x
  | none => s.respond p tag .badArgument

def execSetWatch (p : Requester) (w en q : Nat) (thr : Int) (dir act : Nat) (s : State) : Host.Outcome State Fault Refusal :=
  s.run fun k => k.takeRequest p (.setWatch w en q thr dir act) fun tag k => k.answerSetWatch p tag w en q thr dir act

/-- The interval is replaced, both results cleared, the change reported, sampling restarted with W1 first and the hold judged (R48). -/
def Ctl.setInterval (s : Ctl) (n : Nat) : Ctl :=
  let s1 := s.setClimate { s.climate with interval := n, results := ⟨.initial, .initial⟩ }
  ((s1.changed).restartSampling .w1).judgeHold

def Ctl.answerSetClimateInterval (s : Ctl) (p : Requester) (tag secs : Nat) : Ctl :=
  (s.respond p tag .ok (.setting (clampNat 1 60 secs))).setInterval (clampNat 1 60 secs)

def execSetClimateInterval (p : Requester) (secs : Nat) (s : State) : Host.Outcome State Fault Refusal :=
  s.run fun k => k.takeRequest p (.setClimateInterval secs) fun tag k => k.answerSetClimateInterval p tag secs

def Ctl.answerSetAcclimation (s : Ctl) (p : Requester) (tag mins : Nat) : Ctl :=
  let s1 := s.respond p tag .ok (.setting (clampNat 0 240 mins))
  (s1.setClimate { s1.climate with acclimation := clampNat 0 240 mins }).changed

def execSetAcclimation (p : Requester) (mins : Nat) (s : State) : Host.Outcome State Fault Refusal :=
  s.run fun k => k.takeRequest p (.setAcclimation mins) fun tag k => k.answerSetAcclimation p tag mins

/-! ## CLEAR_ACCLIMATION and the minute timer (R55, R56) -/

/-- An element's entry has no acclimation left. -/
def Ctl.clearAcclim (s : Ctl) (e : Element) : Ctl :=
  s.setElem e { s.elem e with entry := (s.elem e).entry.map fun x => { x with acclim := 0 } }

def Ctl.answerClearAcclimation (s : Ctl) (p : Requester) (tag : Nat) (l : Label) : Ctl :=
  if s.inv.key = .lock then s.respond p tag .keyLocked
  else
    match s.findLabel l with
    | none => s.respond p tag .notFound
    | some e => (s.respond p tag .ok).clearAcclim e

def execClearAcclimation (p : Requester) (l : Label) (s : State) : Host.Outcome State Fault Refusal :=
  s.run fun k => k.takeRequest p (.clearAcclimation l) fun tag k => k.answerClearAcclimation p tag l

/-- One minute less for an entry that has any left. -/
def Entry.minute (x : Entry) : Entry := { x with acclim := x.acclim - 1 }

def ElementRec.minute (r : ElementRec) : ElementRec := { r with entry := r.entry.map Entry.minute }

/-- Every entry's acclimation remaining above 0 is reduced by 1 (R55), that of a cartridge the picker is looking for (R40) among them. -/
def Ctl.minute (s : Ctl) : Ctl :=
  { s with inv := { s.inv with elements := s.inv.elements.map ElementRec.minute },
           picker := { s.picker with carried := s.picker.carried.map Entry.minute } }

def execMinuteTimerExpiry (s : State) : Host.Outcome State Fault Refusal := s.run Ctl.minute

/-! ## READ_CLIMATE (R53) -/

def Ctl.climateAnswer (s : Ctl) : ClimateAnswer :=
  let c := s.climate
  { temperature := c.lastTemperature, humidity := c.lastHumidity, watches := c.watches, results := c.results, sampling := c.sampling, next := c.next,
    interval := c.interval, failures := c.failures, failSafe := c.failSafe, hold := c.hold, acclimation := c.acclimation }

def Ctl.answerReadClimate (s : Ctl) (p : Requester) (tag : Nat) : Ctl := s.respond p tag .ok (.climate s.climateAnswer)

def execReadClimate (p : Requester) (s : State) : Host.Outcome State Fault Refusal :=
  s.run fun k => k.takeRequest p .readClimate fun tag k => k.answerReadClimate p tag

/-! ## Readings (R46, R48) -/

/-- The sample interval expires: in RUNNING one reading of the next watch's quantity starts (R48). -/
def Ctl.sample (s : Ctl) : Ctl :=
  if s.climate.sampling = .running then s.setClimate { s.climate with reading := some s.climate.next } else s

def execSampleIntervalExpiry (s : State) : Host.Outcome State Fault Refusal := s.run Ctl.sample

/-- A value lies in its quantity's range. -/
def Quantity.inRange (q : Quantity) (v : Int) : Bool := decide (q.low ≤ v) && decide (v ≤ q.high)

/-- The sensor's answer to the reading in progress: a successful reading, or a failed one for no acknowledge or a value out of range (R46). An answer to no reading is
discarded. -/
def Ctl.sensorAnswer (s : Ctl) (r : SensorReply) : Ctl :=
  match s.climate.reading with
  | none => s
  | some w =>
    match r with
    | .value v => if (s.climate.watches.get w).quantity.inRange v then s.readingDone w v else s.readingFailed w
    | .noAcknowledge => s.readingFailed w

def execSensorAnswer (r : SensorReply) (s : State) : Host.Outcome State Fault Refusal := s.run fun k => k.sensorAnswer r

/-- No complete answer came within 500 ms (R46). -/
def Ctl.sensorSilent (s : Ctl) : Ctl :=
  match s.climate.reading with
  | none => s
  | some w => s.readingFailed w

def execSensorNoAnswer (s : State) : Host.Outcome State Fault Refusal := s.run Ctl.sensorSilent

end Sys2Proof.Machine
end

