-- ==== Sys2Proof/Machine/Doors.lean ====
section
/-! DEFINITION. Magazine doors and the mail slot (1.5, 1.6): the unlock test, refusal and relocking, forced openings, the audits doors raise, and import and export. -/

namespace Sys2Proof.Machine

/-! ## Doors (R11 to R16) -/

/-- A requester's grant mark counts: granted, or the link is offline (R14). -/
def Ctl.doorGranted (s : Ctl) (m : Mag) (l : Link) : Bool := (s.door m).granted.get l || !(s.link l).online

/-- The unlock condition (R14). -/
def Ctl.doorMayUnlock (s : Ctl) (m : Mag) : Bool :=
  (s.door m).state = .asking && s.doorGranted m .a && s.doorGranted m .b
    && match s.picker.running with
      | some o => !s.touches o m
      | none => true

/-- The unlock condition is tested, and the door unlocks when it holds (R14). -/
def Ctl.doorTest (s : Ctl) (m : Mag) : Ctl :=
  if s.doorMayUnlock m then
    (s.setDoor m { s.door m with state := .unlocked, askTimer := false, openTimer := true }).notifyAll (.door m .unlocked .ok)
  else s

def Ctl.doorTests (s : Ctl) : Ctl := (s.doorTest .l).doorTest .r

/-- A door is LOCKED, its request over. -/
def Door.locked : Door := .initial

/-- A door returns to LOCKED: deferred orders are waiting again by R29, and what waits for a cartridge is judged again (R113, R144, R164). -/
def Ctl.doorLocked (s : Ctl) (m : Mag) : Ctl := ((s.setDoor m .locked).rechooseAll).judgeWaiting

/-- A door notice to the links that were asked (R11, R14). -/
def Ctl.notifyAsked (s : Ctl) (asked : PerLink Bool) (n : Notice) : Ctl :=
  let s1 := if asked.a then s.notifyLink .a n else s
  if asked.b then s1.notifyLink .b n else s1

/-- A door request ends without the door unlocking: LOCKED, with the notice to the requester and to every link asked (R11, R12, R14, R24). -/
def Ctl.doorRefused (s : Ctl) (m : Mag) (cause : Code) : Ctl :=
  let d := s.door m
  let asked : PerLink Bool := match d.requester with
    | some (.link l) => d.asked.set l false
    | _ => d.asked
  ((s.doorLocked m).notifyOpt d.requester (.door m .locked cause)).notifyAsked asked (.door m .locked cause)

/-- Every slot of a magazine becomes UNCERTAIN, keeping its entry (R15). -/
def Ctl.slotsUncertain (s : Ctl) (m : Mag) : Ctl := m.slots.foldl (fun s e => s.setElem e { s.elem e with occ := .uncertain }) s

/-- The door is OPEN (R15). -/
def Ctl.doorOpened (s : Ctl) (m : Mag) : Ctl := (s.setDoor m { Door.initial with state := .opened }).slotsUncertain m

/-- An AUDIT of a magazine. -/
def Order.audits (m : Mag) (o : Order) : Bool := o.kind = .audit && o.source = .magazine m

/-- The READ in progress of a magazine's running AUDIT becomes its last (R17), and an AUDIT of it held over a fault is offered no more. -/
def Ctl.stopScan (s : Ctl) (m : Mag) : Ctl :=
  let mine : Bool := match s.picker.running with
    | some o => o.audits m
    | none => false
  s.setPicker { s.picker with
    phase := if mine then .scanStopped else s.picker.phase
    auditOffers := s.picker.auditOffers.filter fun o => !o.audits m }

/-- The door switch reports OPEN (R15, R17). An AUDIT still waiting leaves the queue; a running one stops after the slot it is reading. -/
def Ctl.doorSwitchOpened (s : Ctl) (m : Mag) : Ctl :=
  match (s.door m).state with
  | .unlocked => s.doorOpened m
  | .locked => (s.doorOpened m).notifyAll (.door m .opened .ok)
  | .asking => (s.doorOpened m).notifyAll (.door m .opened .ok)
  | .audit => ((s.stopScan m).withdraw (Order.audits m)).doorOpened m
  | .opened => s

/-- An order of the Inventory Table. -/
def Order.audit (src : OrderSource) (role : OrderRole) : Order :=
  { Order.blank with raisedBy := some .inventory, kind := .audit, source := src, role := role }

/-- The door switch reports CLOSED: an OPEN door enters AUDIT, and its AUDIT is raised (R16). -/
def Ctl.doorSwitchShut (s : Ctl) (m : Mag) : Ctl :=
  if (s.door m).state = .opened then (s.setDoor m { Door.initial with state := .audit }).raiseOrder (Order.audit (.magazine m) .plain) else s

/-! ## The mail slot (R19 to R22) -/

/-- M becomes UNCERTAIN, keeping its entry. -/
def Ctl.mailUncertain (s : Ctl) : Ctl := s.setElem .mail { s.elem .mail with occ := .uncertain }

/-- The reservation an import made for its requester returns to NONE (R19, R20). One that another requester has placed there since stays (R5). -/
def Ctl.releaseImport (s : Ctl) (slot : Option (Fin 24)) (p : Option Requester) : Ctl :=
  match slot with
  | some i => if (s.elem (.slot i)).reserved = p then s.reserveFor (.slot i) none else s
  | none => s

/-- The reservation of an import that has the mail slot open is taken back. -/
def Ctl.endImport (s : Ctl) : Ctl := if s.inv.mail.state = .openImport then s.releaseImport s.inv.mail.reservedSlot s.inv.mail.requester else s

/-- The mail slot opens for an export, with its latch released and its timer at 60 s (R21). DESIGN CHOICE (log 44): where an IMPORT has opened it while the export's move was
on its way, that import ends in silence, with its reservation. -/
def Ctl.mailOpenExport (s : Ctl) (p : Option Requester) (l : Label) : Ctl :=
  s.endImport.setMail
    { s.inv.mail with state := .openExport, requester := p, dest := none, reservedSlot := none, label := some l, timer := true, switchOpen := false }

/-- The mail slot is LOCKED again; a forced opening still awaits its CLOSED report (R19). -/
def MailSlot.relocked (m : MailSlot) : MailSlot := { MailSlot.initial with forced := m.forced }

/-- The audit of M that a forced opening ends in (R19). -/
def Order.mailAudit : Order := Order.audit (.element .mail) .plain

/-- The mail slot's switch has been closed: the move or the scan of what it was opened for follows, with the slot LOCKED (R19, R22). -/
def Ctl.mailShut (s : Ctl) (o : Order) : Ctl := (s.setMail .initial).raiseOrder o

/-- The mail-slot switch reports OPEN (R19, R22). -/
def Ctl.mailSwitchOpened (s : Ctl) : Ctl :=
  let m := s.inv.mail
  match m.state with
  | .locked => (s.setMail { m with forced := true }).mailUncertain
  | _ => (s.setMail { m with timer := false, switchOpen := true }).mailUncertain

/-- The end of a forced opening: M is audited, whatever the mail slot has been opened for meanwhile (R19). DEDUCED (log 65): an import or export that has opened it stays open,
and waits for its own OPEN report. -/
def Ctl.forcedShut (s : Ctl) : Ctl :=
  if s.inv.mail.forced then (s.setMail { s.inv.mail with forced := false }).raiseOrder Order.mailAudit else s

/-- The mail-slot switch reports CLOSED: the import's move, the export's scan, or the audit of M after a forced opening is raised (R19, R22). -/
def Ctl.mailSwitchShut (s : Ctl) : Ctl :=
  let m := s.inv.mail
  match m.state with
  | .locked => s.forcedShut
  | .openImport =>
    if m.switchOpen then
      s.mailShut { Order.blank with
        requester := m.requester, raisedBy := some .inventory, kind := .move, source := .element .mail,
        dest := (match m.dest with | some i => .element (.slot i) | none => .any), role := .importMove m.reservedSlot }
    else s.forcedShut
  | .openExport =>
    if m.switchOpen then
      match m.requester, m.label with
      | some p, some l => s.mailShut (Order.audit (.element .mail) (.exportScan p l))
      | _, _ => s.mailShut Order.mailAudit
    else s.forcedShut

/-- An import or export ends before its switch opened: relocked, with its notice (R19, R22, R24). -/
def Ctl.mailCancelled (s : Ctl) (cause : Code) : Ctl :=
  let m := s.inv.mail
  match m.state with
  | .locked => s
  | .openImport => if m.switchOpen then s else ((s.setMail m.relocked).releaseImport m.reservedSlot m.requester).notifyOpt m.requester (.mailSlot .imported cause none)
  | .openExport => if m.switchOpen then s else (s.setMail m.relocked).notifyOpt m.requester (.mailSlot .exported cause m.label)

end Sys2Proof.Machine
end

