-- ==== Sys2Proof/Machine/DoorEvents.lean ====
section
/-! DEFINITION. The switches and timers of doors and mail slot, the key switch, and the unlock of a door (R9, R14 to R16, R19, R22). -/

namespace Sys2Proof.Machine

def execDoorSwitchOpen (m : Mag) (s : State) : Host.Outcome State Fault Refusal := s.run fun k => k.doorSwitchOpened m

def execDoorSwitchClosed (m : Mag) (s : State) : Host.Outcome State Fault Refusal := s.run fun k => k.doorSwitchShut m

def execMailSwitchOpen (s : State) : Host.Outcome State Fault Refusal := s.run Ctl.mailSwitchOpened

def execMailSwitchClosed (s : State) : Host.Outcome State Fault Refusal := s.run Ctl.mailSwitchShut

/-- The last reported position is held (R9). -/
def execKeySwitchChange (k : Key) (s : State) : Host.Outcome State Fault Refusal := s.run fun x => x.setKey k

/-- The ask timer expires with the door still ASKING: the request is refused (R14). -/
def Ctl.askExpired (s : Ctl) (m : Mag) : Ctl :=
  if (s.door m).state = .asking ∧ (s.door m).askTimer = true then s.doorRefused m .doorRefused else s

def execAskTimerExpiry (m : Mag) (s : State) : Host.Outcome State Fault Refusal := s.act fun k => k.askExpired m

/-- The open timer expires with the door still UNLOCKED: the door is locked again, with no audit (R14). -/
def Ctl.openExpired (s : Ctl) (m : Mag) : Ctl :=
  if (s.door m).state = .unlocked ∧ (s.door m).openTimer = true then (s.doorLocked m).notifyAll (.door m .locked .timeout) else s

def execDoorOpenTimerExpiry (m : Mag) (s : State) : Host.Outcome State Fault Refusal := s.act fun k => k.openExpired m

/-- The mail slot's timer expires before its switch reports OPEN (R19, R22). -/
def Ctl.mailExpired (s : Ctl) : Ctl := if s.inv.mail.timer then s.mailCancelled .timeout else s

def execMailOpenTimerExpiry (s : State) : Host.Outcome State Fault Refusal := s.run Ctl.mailExpired

/-- The unlock condition is tested (R14). -/
def execDoorUnlock (m : Mag) (s : State) : Host.Outcome State Fault Refusal := s.run fun k => k.doorTest m

end Sys2Proof.Machine
end

