-- ==== Sys2Proof/Machine/Motion.lean ====
section
/-! DEFINITION. The picker (2.4 to 2.7): starting an order with its checks, the exchange with the motion board, the ends of orders, faults, and the settling of the
gripper at HOME (R31 to R40), with the scans of R17, R22, R23 and R36. -/

namespace Sys2Proof.Machine

/-! ## Commands -/

/-- A command goes to the motion board (R33). -/
def Ctl.command (s : Ctl) (k : MotionCmd) (ph : Phase) : Ctl := s.setPicker { s.picker with cmd := some k, phase := ph }

/-- The command has been answered: none is outstanding. -/
def Ctl.answered (s : Ctl) : Ctl := s.setPicker { s.picker with cmd := none, phase := .idle }

/-- The picker returns to IDLE. -/
def Ctl.pickerIdle (s : Ctl) : Ctl := s.setPicker { s.picker with state := .idle, cmd := none, phase := .idle }

def Ctl.modOrder (s : Ctl) (id : Nat) (f : Order → Order) : Ctl := s.mapOrders fun o => if o.id = id then f o else o

/-! ## The ends of orders (R32, R34, R35) -/

/-- The mail slot's part in an order's end (R20, R21). -/
def Ctl.mailEnd (s : Ctl) (o : Order) (reason : Option Code) (l : Option Label) : Ctl :=
  match o.role with
  | .importMove slot => (s.releaseImport slot o.requester).notifyOpt o.requester (.mailSlot .imported (reason.getD .ok) l)
  | .exportMove lab =>
    match reason with
    | none => s.mailOpenExport o.requester lab
    | some r => s.notifyOpt o.requester (.mailSlot .exported r (some lab))
  | _ => s

/-- The raising block is told that its LOAD has failed (R111, R119, R149, R160, R172). -/
def Ctl.loadFailed (s : Ctl) (o : Order) (reason : Code) : Ctl :=
  if o.kind = .load then
    match o.raisedBy with
    | some (.chan c) => s.sessionLoadFailed c reason
    | some (.restoreUnit c) => s.restoreLoadFailed c reason
    | some .verifyUnit => s.verifyLoadFailed reason
    | some .storeController => s.recoveryLoadFailed reason
    | _ => s
  else s

/-- A MOVE, LOAD or UNLOAD that was started has failed: it leaves the queue, MOVE_FAILED goes to its requester, its raising block is told, and the doors are tested (R14, R32,
R38). `l` is the cartridge's label, where one was read. -/
def Ctl.orderFailed (s : Ctl) (o : Order) (reason : Code) (l : Option Label) : Ctl :=
  let s1 := (s.leave o.id).notifyOpt o.requester (.moveFailed o.id reason)
  ((((s1.mailEnd o (some reason) l).loadFailed o reason).doorTests).finishDrains)

/-- A LOAD's PUT has completed: its transport is ordered to THREAD for the activity that needed the load (R35, R126). -/
def Ctl.loadThread (s : Ctl) (o : Order) (c : Chan) : Ctl :=
  match o.raisedBy with
  | some (.chan _) => s.thread c .sThread
  | some (.restoreUnit _) => s.thread c .rThread
  | some .verifyUnit =>
    match s.verifyOn c with
    | some v => s.thread c (if v.pauseAsked then .plainThread else .vThread)
    | none => s.thread c .plainThread
  | some .storeController => s.thread c .cThread
  | _ => s.thread c .plainThread

/-- The raising block is told that its LOAD has completed: a verify asked to pause pauses (R150), an ended activity's cartridge goes home again (R116, R151, R165). -/
def Ctl.loadDone (s : Ctl) (o : Order) (c : Chan) : Ctl :=
  let s1 := if o.unloadAfter then s.unloadHome c o.requester none else s
  match o.raisedBy with
  | some .verifyUnit =>
    match s1.verifyOn c with
    | some v => if v.pauseAsked then s1.verifyPause v c else s1
    | none => s1
  | _ => s1

/-- A cartridge stands in a transport again, not threaded: the transport is EJECTED (R125). -/
def Ctl.presentUnthreaded (s : Ctl) (c : Chan) : Ctl :=
  let t := s.tr c
  s.setTr c { t with present := true, state := if t.state = .empty then .ejected else t.state }

/-- P's cartridge is set down at an element: the element is FULL with the entry, P EMPTY, and the catalog follows (R35). -/
def Ctl.setDown (s : Ctl) (e : Element) (f : Entry → Entry) : Ctl :=
  let en := f ((s.elem .gripper).entry.getD s.unread)
  let s1 := (s.fill .gripper .empty none).place e (some en)
  s1.setLoc (s1.labelAt e) (some e)

/-- The home slot a completed order gives (R2): its destination slot, or for a LOAD its source slot. -/
def Order.home (o : Order) (dest : Element) (en : Entry) : Entry :=
  match o.kind with
  | .load => match o.source with
    | .element (.slot i) => { en with home := some i }
    | _ => en
  | _ => match dest with
    | .slot i => { en with home := some i }
    | _ => en

/-- A PUT at the order's destination completes it (R35). -/
def Ctl.orderDone (s : Ctl) (o : Order) (dest : Element) : Ctl :=
  let l := s.labelAt .gripper
  let s1 := s.setDown dest (o.home dest)
  let s2 := match o.kind, o.destTransport with
    | .load, some c => (s1.setPresent c true).loadThread o c
    | _, _ => s1
  let s3 := ((s2.leave o.id).notifyOpt o.requester (.moveDone o.id)).mailEnd o none l
  let s4 := match o.kind, o.destTransport with
    | .load, some c => s3.loadDone o c
    | _, _ => s3
  ((((s4.pickerIdle).doorTests).rechooseAll).judgeWaiting).finishDrains

/-! ## The checks at the start (R32) -/

/-- The protection rules forbid moving a cartridge to an element (R8). -/
def Ctl.protectForbids (s : Ctl) (en : Option Entry) (kind : OrderKind) (purpose : Purpose) (dest : Element) : Bool :=
  let home : Option Element := (en.bind (·.home)).map .slot
  match kind with
  | .load => s.entryProtected en && (purpose = .write || purpose = .none)
  | _ => (s.slotProtected dest && decide (home ≠ some dest)) || (s.entryProtected en && decide (home ≠ some dest))

/-- The elements an order names, for the reservation check (R6). -/
def Ctl.namedReserved (s : Ctl) (o : Order) : Bool :=
  (o.source.element?.toList ++ o.dest.element?.toList ++ (s.homeNamed o).toList).any (s.reservedByOther o.requester)

/-- What the start of a MOVE, LOAD or UNLOAD comes to. -/
inductive StartResult
  | fails (reason : Code)
  | noSlot
  | importStays
  | goes (src dest : Element)
  deriving DecidableEq, Repr

/-- The destination of an import move (R20): the named slot if R19's conditions still hold for it, or the lowest free one. -/
def Ctl.importDest (s : Ctl) (o : Order) : Option Element :=
  match o.dest with
  | .element e =>
    if (s.elem e).occ = .empty ∧ s.slotProtected e = false ∧ s.reservedByOther o.requester e = false ∧ s.doorBusy e = false then some e else none
  | _ => s.freeSlot o.requester

/-- The checks of an import move (R20, R32). DEDUCED (log 68): a named slot that has become UNCERTAIN, or that another requester has reserved, makes it end as R20's table says, with M read
and ELEMENT_FULL, and not by R32's. -/
def Ctl.startImport (s : Ctl) (o : Order) : StartResult :=
  if s.reservedByOther o.requester .mail then .fails .reserved
  else if (s.elem .mail).occ = .empty then .fails .noCartridge
  else
    match s.importDest o with
    | some d => .goes .mail d
    | none => .importStays

/-- The checks of R32, in their order. -/
def Ctl.startChecks (s : Ctl) (o : Order) : StartResult :=
  match o.role, o.source with
  | .importMove _, _ => s.startImport o
  | _, .element src =>
    let named := src :: o.dest.element?.toList
    let en := (s.elem src).entry
    let faulted : Bool := s.loadToFaulted o
    let taken : Bool := o.kind = .load && !o.internal && (match o.destTransport with | some c => !s.chanIdle c | none => false)
    if named.any fun e => (s.elem e).occ = .uncertain then .fails .wrongState
    else if faulted then .fails .wrongState
    else if taken then .fails .channelBusy
    else if s.namedReserved o then .fails .reserved
    else if (s.elem src).occ = .empty then .fails .noCartridge
    else
      match (match o.dest with
        | .element d => some d
        | _ => s.resolveHome o.requester en) with
      | none => .noSlot
      | some d =>
        if (s.elem d).occ = .full then .fails .elementFull
        else if s.protectForbids en o.kind o.purpose d then .fails .isProtected
        else .goes src d
  | _, _ => .fails .noCartridge

/-! ## Scans (R17, R22, R23, R36) -/

/-- The elements an AUDIT or SCAN_ALL visits, in order. -/
def Order.visits (o : Order) : List Element :=
  match o.kind, o.source with
  | .scanAll, _ => Mag.slots .l ++ Mag.slots .r ++ [.mail]
  | _, .magazine m => m.slots
  | _, .element e => [e]
  | _, _ => []

/-- SCAN_ALL passes over an element: a slot behind a door that is OPEN or in AUDIT, and M while a forced opening awaits its CLOSED report (R36). -/
def Ctl.scanSkips (s : Ctl) (o : Order) (e : Element) : Bool :=
  o.kind = .scanAll &&
    match e with
    | .mail => s.inv.mail.forced
    | _ => match e.mag with
      | some m => (s.door m).state = .opened || (s.door m).state = .audit
      | none => false

/-- The acclimation a scan gives a newly found cartridge (R2, R23). -/
def Ctl.scanAcclim (s : Ctl) (o : Order) : Nat := if o.role = .powerUpScan then 0 else s.climate.acclimation

/-- Catalogued cartridges whose location meets `p` and which do not stand there become OUTSIDE. -/
def Ctl.outside (s : Ctl) (p : Cart → Element → Bool) : Ctl :=
  s.putCat { s.cat with carts := s.cat.carts.map fun k =>
    match k.loc with
    | some e => if p k e then { k with loc := none } else k
    | none => k }

/-- Step 1 of an audit's completion (R17): those of this magazine, and of P and M while UNCERTAIN, that the scan did not find. -/
def Ctl.auditOutside (s : Ctl) (m : Mag) : Ctl :=
  s.outside fun k e => (e.mag = some m && s.labelAt e ≠ some k.label) || ((e = .gripper || e = .mail) && (s.elem e).occ = .uncertain)

/-- SCAN_ALL's marking of the cartridges it did not find (R23, step 4). One whose location is a place the scan has passed over stays; so does one it read in a slot that a door's opening
has made UNCERTAIN since (R36). -/
def Ctl.scanOutside (s : Ctl) : Ctl :=
  s.outside fun k e => (s.findLabel k.label).isNone && decide (e ∉ s.picker.passed) && decide (s.labelAt e ≠ some k.label)

/-- Places are passed over (R36). -/
def Ctl.passOver (s : Ctl) (es : List Element) : Ctl := s.setPicker { s.picker with passed := s.picker.passed ++ es }

/-- An AUDIT or SCAN_ALL is over: it leaves the queue, the picker is IDLE, the doors are tested (R14, R36). -/
def Ctl.scanOver (s : Ctl) (o : Order) : Ctl := (((s.leave o.id).pickerIdle).doorTests).finishDrains

/-- One that is complete: sessions in NEED_CARTRIDGE choose again, and what waits for a cartridge is judged again (R113, R144, R164). -/
def Ctl.scanComplete (s : Ctl) (o : Order) : Ctl := ((s.rechooseAll).scanOver o).judgeWaiting

/-- SCAN_ALL is complete. -/
def Ctl.scanDone (s : Ctl) (o : Order) : Ctl := (s.scanOutside).scanComplete o

/-- The entry of a cartridge that a transport holds and of which nothing is known (R23, step 2). -/
def Entry.inTransport : Entry := { label := none, home := none, acclim := 0, tab := .unknown }

/-- The state of a transport is taken (R23, step 2): a cartridge it holds, with its last known entry, goes home by an UNLOAD on behalf of no requester. A FAULTED transport's is raised
too, and fails by R30. DESIGN CHOICE (log 77): that UNLOAD carries the last known label as the one expected, as every UNLOAD HOME does (R25), so that a cartridge read with another is put
back (R34). -/
def Ctl.scanTransport (s : Ctl) (o : Order) (c : Chan) : Ctl :=
  let e := Element.transport c
  if (s.tr c).present then
    let s1 := s.place e (some ((s.elem e).entry.getD .inTransport))
    let s2 := s1.setLoc (s1.labelAt e) (some e)
    if s2.unloadRaised c none (some .inventory) then s2 else s2.raiseOrder (s2.homeOrder c none (some .inventory) o.role)
  else s.fill e .empty none

/-- P is settled last (R23, step 3): a cartridge in it is read, then put away. -/
def Ctl.scanGripper (s : Ctl) (o : Order) : Ctl :=
  if (s.elem .gripper).occ = .empty then s.scanDone o else s.command (.read .gripper) .scanGripRead

/-- The next element of a scan is read, or the scan goes on to the transports and P (R36). -/
def Ctl.scanNext (s : Ctl) (o : Order) (rest : List Element) : Ctl :=
  let s1 := s.passOver (rest.takeWhile (s.scanSkips o))
  match rest.dropWhile (s.scanSkips o) with
  | e :: more => s1.command (.read e) (.scanning (e :: more))
  | [] =>
    match o.kind with
    | .scanAll => ((s1.scanTransport o .c0).scanTransport o .c1).scanGripper o
    | _ => s1.scanOver o

/-- P has been read in SCAN_ALL: its cartridge is put where R18 resolves, or stays with NO_SLOT (R23, R36). -/
def Ctl.scanPutAway (s : Ctl) (o : Order) : Ctl :=
  if (s.elem .gripper).occ = .full then
    match s.resolveHome none (s.elem .gripper).entry with
    | some d => s.command (.put d) (.scanGripPut d)
    | none => (s.notifyAll (.noSlot (s.labelAt .gripper) .gripper)).scanDone o
  else s.scanDone o

/-- A magazine's audit completes (R17). -/
def Ctl.auditDone (s : Ctl) (o : Order) (m : Mag) : Ctl :=
  ((((s.auditOutside m).doorLocked m).notifyAll (.door m .locked .ok)).scanOver o)

/-- The scan of M after an export (R22): the exported label, read as R3 lets a label be read, leaves M as it was; anything else means that the exported
cartridge has gone. -/
def Ctl.exportScan (s : Ctl) (p : Requester) (l : Label) (r : ReadReport) : Ctl :=
  if validRead r = some l then (s.auditElement .mail r s.climate.acclimation).notify p (.mailSlot .exported .elementFull (some l))
  else (((s.fill .mail .uncertain none).setLoc (some l) none).auditElement .mail r s.climate.acclimation).notify p (.mailSlot .exported .ok (some l))

/-- A READ of a scan is answered (R17, R22, R36). A slot whose door has opened under SCAN_ALL's READ is passed over too. DESIGN CHOICE (log 66): the AUDIT of M alone changes the location of
no cartridge that it does not find; R17 names OUTSIDE for the audit of a magazine. -/
def Ctl.scanRead (s : Ctl) (o : Order) (e : Element) (rest : List Element) (r : ReadReport) : Ctl :=
  match o.kind, o.source, o.role with
  | .audit, .magazine m, _ =>
    let s1 := s.auditElement e r (s.scanAcclim o)
    match rest with
    | [] => s1.auditDone o m
    | _ => s1.scanNext o rest
  | .audit, _, .exportScan p l => (s.exportScan p l r).scanComplete o
  | .audit, _, _ => (s.auditElement e r (s.scanAcclim o)).scanComplete o
  | _, _, _ => (if s.scanSkips o e then s.passOver [e] else s.auditElement e r (s.scanAcclim o)).scanNext o rest

/-! ## Starting (R31, R32, R36) -/

/-- An order becomes RUNNING. -/
def Ctl.run (s : Ctl) (o : Order) : Ctl :=
  (s.modOrder o.id fun o => { o with state := .running, retry := 0 }).setPicker
    { (s.modOrder o.id fun o => { o with state := .running, retry := 0 }).picker with state := .busy }

/-- At RELOAD's SCAN_ALL, P takes back its last known record (R23). DESIGN CHOICE (log 46): with no entry that record is taken as EMPTY. -/
def Ctl.gripperBack (s : Ctl) (o : Order) : Ctl :=
  if o.role = .reloadScan ∧ (s.elem .gripper).occ = .uncertain then
    match (s.elem .gripper).entry with
    | some en => s.place .gripper (some en)
    | none => s.fill .gripper .empty none
  else s

/-- An order is started (R32, R34, R36). -/
def Ctl.start (s : Ctl) (o : Order) : Ctl :=
  match o.kind with
  | .audit => (s.run o).scanNext o o.visits
  | .scanAll => ((((s.run o).setPicker { (s.run o).picker with passed := [] }).gripperBack o)).scanNext o o.visits
  | _ =>
    match s.startChecks o with
    | .goes src d =>
      if src = .gripper then (s.run o).command (.put d) (.putting d) else (s.run o).command (.fetch src) (.fetching d)
    | .importStays => (s.run o).command (.read .mail) .importRead
    | .noSlot =>
      let src := o.source.element?.getD .gripper
      (s.notifyAll (.noSlot (s.labelAt src) src)).orderFailed o .elementFull (s.labelAt src)
    | .fails r => s.orderFailed o r none

/-- The oldest WAITING order is started when the picker is IDLE (R31). -/
def Ctl.orderStart (s : Ctl) : Ctl :=
  if s.picker.state = .idle then
    match s.oldestWaiting with
    | some o => s.start o
    | none => s
  else s

/-! ## FETCH (R34) -/

/-- A fetch from a transport tells the port that its cartridge is gone (R34, R125). -/
def Ctl.transportFetched (s : Ctl) (e : Element) : Ctl :=
  match e with
  | .transport c =>
    let t := s.tr c
    s.setTr c { t with present := false, tabSeen := none, state := if t.state = .faulted then .faulted else .empty }
  | _ => s

/-- The label of a cartridge fetched from M by an import (R20): it is a newly found cartridge at M. -/
def Ctl.importFetched (s : Ctl) (rd : LabelRead) : Ctl :=
  let (s1, l) := (s.setLoc (s.labelAt .gripper) none).newLabel .mail .gripper (validLabel rd)
  s1.fill .gripper .full (some { label := some l, home := none, acclim := s.climate.acclimation, tab := .unknown })

/-- The acclimation a fetch from an element gives a cartridge that its label makes a newly found one (R3): the setting, but for one without a label in a transport at power-up,
which keeps what it has (R23). -/
def Ctl.fetchAcclim (s : Ctl) (o : Order) (src : Element) (en : Entry) : Nat :=
  match src with
  | .transport _ => if en.label = none ∧ o.role ≠ .reloadScan then en.acclim else s.climate.acclimation
  | _ => s.climate.acclimation

/-- The label read at a fetch is applied (R3). A cartridge that came with a transport at power-up or RELOAD gets its tab with its label (R138). -/
def Ctl.fetchLabel (s : Ctl) (o : Order) (src : Element) (rd : LabelRead) : Ctl :=
  match o.role with
  | .importMove _ => s.importFetched rd
  | _ =>
    match (s.elem .gripper).entry with
    | some en =>
      let fresh : Bool := en.label.isNone
      let s1 := s.applyFetchLabel src rd (s.fetchAcclim o src en)
      match fresh, (s1.elem .gripper).entry, src with
      | true, some en1, .transport c => s1.fill .gripper .full (some { en1 with tab := match (s.tr c).tabSeen with | some t => t.tab | none => en1.tab })
      | _, _, _ => s1
    | none => s

/-- The first half is complete (R34). -/
def Ctl.fetched (s : Ctl) (o : Order) (src dest : Element) (rd : LabelRead) : Ctl :=
  let en := (s.elem src).entry
  let s1 := (s.fill src .empty none).place .gripper (some (en.getD s.unread))
  let s2 := s1.setLoc (s1.labelAt .gripper) (some .gripper)
  let s3 := (s2.fetchLabel o src rd).transportFetched src
  let s4 := s3.modOrder o.id fun o => { o with retry := 0 }
  let wrong : Bool := o.internal && (match o.wanted with | some w => decide (s4.labelAt .gripper ≠ some w) | none => false)
  if wrong then s4.command (.put src) .puttingBack else s4.command (.put dest) (.putting dest)

/-- A FETCH answered EMPTY (R34). -/
def Ctl.fetchedNothing (s : Ctl) (o : Order) (src : Element) : Ctl :=
  let l := s.labelAt src
  let s1 := ((s.fill src .empty none).setLoc l none).transportFetched src
  (s1.pickerIdle).orderFailed o .noCartridge none

/-! ## The settling of the gripper (R40, R43) -/

/-- The picker enters IDLE, every requester is told, and the audits held over a fault are offered again (R38, R40). -/
def Ctl.settled (s : Ctl) : Ctl :=
  let offers := s.picker.auditOffers
  let s1 := s.setPicker { s.picker with state := .idle, cmd := none, phase := .idle, auditOffers := [], failed := none, carried := none, homeRetry := 0 }
  offers.foldl (fun s o => s.raiseOrder o) (s1.notifyAll .pickerIdle)

/-- Where a put-back goes (R40). A protected cartridge passes over every protected slot but its home slot. DESIGN CHOICE (log 47): where no failed order, or one on behalf of no
requester, stands behind it, no reservation stops step 3. -/
def Ctl.putBackPlace (s : Ctl) : Option Element :=
  let en := (s.elem .gripper).entry
  let f := s.picker.failed
  let home : Option Element := (en.bind (·.home)).map .slot
  let free := s.freeSlotFor (f.bind (·.requester)) home
  let first : Option Element := match f.bind (·.source) with
    | some (.transport _) => home
    | some .gripper => none
    | x => x
  match first with
  | some e =>
    if (s.elem e).occ = .empty ∧ (s.entryProtected en = false ∨ s.slotProtected e = false ∨ home = some e) then some e else free
  | none => free

/-- The put-back after a HOME answered HOLDING, or NO_SLOT (R40). -/
def Ctl.putBack (s : Ctl) : Ctl :=
  match s.putBackPlace with
  | some d => (s.setPicker { s.picker with homeRetry := 0 }).command (.put d) (.homePutBack d)
  | none => (s.notifyAll (.noSlot (s.labelAt .gripper) .gripper)).settled

/-- The cartridge that a failed PUT set down after all, or lost, is looked for at the PUT's destination (R40). DESIGN CHOICE (log 49): where no PUT failed there is nowhere to look,
and its entry is dropped. -/
def Ctl.lookFor (s : Ctl) (transportHolds : Bool) : Ctl :=
  match s.picker.failed.bind (·.putDest), s.picker.carried with
  | some (.transport c), some en =>
    if transportHolds then
      let s1 := s.place (.transport c) (some en)
      ((s1.setLoc (s1.labelAt (.transport c)) (some (.transport c))).presentUnthreaded c).settled
    else (s.setLoc en.label none).settled
  | some d, some _ => s.command (.read d) (.homeReading d)
  | none, some en => (s.setLoc en.label none).settled
  | _, none => s.settled

/-- HOME is answered (R40, R43). With the gripper taken as EMPTY and reported EMPTY there is nothing to settle: DESIGN CHOICE (log 83), a cartridge that the picker was looking for when the
READ of that search failed is then looked for no more. DESIGN CHOICE (log 48): a gripped cartridge of which no entry is known, its source having none or no order having failed, is a newly found one without a
label. -/
def Ctl.homeDone (s : Ctl) (holding transportHolds : Bool) : Ctl :=
  let p := s.elem .gripper
  match p.occ, holding with
  | .uncertain, false => (s.fill .gripper .empty none).settled
  | .uncertain, true => s.settled
  | .empty, false => s.settled
  | .full, false =>
    let s1 := s.fill .gripper .empty none
    (s1.setPicker { s1.picker with carried := p.entry }).lookFor transportHolds
  | .full, true => s.putBack
  | .empty, true =>
    match s.picker.failed.bind (·.source) with
    | some e =>
      let s1 := (s.fill e .empty none).place .gripper (some ((s.elem e).entry.getD s.unread))
      ((s1.setLoc (s1.labelAt .gripper) (some .gripper)).transportFetched e).putBack
    | none => (s.place .gripper (some s.unread)).putBack

/-- The READ of a failed PUT's destination is answered (R40): the entry from P serves as the element's last known entry. -/
def Ctl.homeRead (s : Ctl) (e : Element) (r : ReadReport) : Ctl :=
  match s.picker.carried with
  | some en =>
    let s1 := (s.fill e .uncertain (some en)).setLoc en.label none
    (s1.auditElement e r s.climate.acclimation).settled
  | none => (s.auditElement e r s.climate.acclimation).settled

/-! ## Faults (R37, R38) -/

/-- What RESUME_PICKER needs of a failed MOVE, LOAD or UNLOAD. -/
def Picker.failure (p : Picker) (o : Order) : FailedOrder :=
  { source := o.source.element?, requester := o.requester,
    putDest := match p.phase with
      | .putting d => some d
      | .puttingBack => o.source.element?
      | _ => none }

/-- The order being carried out is handled by its kind (R38); an AUDIT that a reopened door has stopped (`again` is no) is not offered again (R17). -/
def Ctl.faultOrder (s : Ctl) (o : Order) (reason : Code) (again : Bool) : Ctl :=
  match o.kind with
  | .audit =>
    let s1 := s.leave o.id
    (if again then s1.setPicker { s1.picker with auditOffers := s1.picker.auditOffers ++ [{ o with state := .ready, retry := 0 }] } else s1).doorTests
  | .scanAll =>
    let s1 := s.leave o.id
    (s1.setPicker { s1.picker with auditOffers := s1.picker.auditOffers ++ [{ o with state := .ready, retry := 0 }] }).doorTests
  | _ => s.orderFailed o reason (s.labelAt .gripper)

/-- The picker becomes FAULTED (R38). -/
def Ctl.pickerFault (s : Ctl) (reason : Code) : Ctl :=
  let p := s.picker
  let failed : Option FailedOrder := match p.running, p.phase with
    | _, .scanGripPut d => some { source := none, putDest := some d, requester := none }
    | _, .homePutBack d => some { (p.failed.getD { source := none, putDest := none, requester := none }) with putDest := some d }
    | some o, _ => match o.kind with
      | .audit => none
      | .scanAll => none
      | _ => some (p.failure o)
    | none, _ => p.failed
  let s1 := s.setPicker { p with state := .faulted, lastFault := some reason, cmd := none, phase := .idle, failed := failed }
  let s2 := match p.running with
    | some o => s1.faultOrder o reason (decide (p.phase ≠ Phase.scanStopped))
    | none => s1
  s2.notifyAll (.pickerFaulted reason)

/-- A FETCH or PUT is tried again (R37). -/
def Ctl.gripFault (s : Ctl) : Ctl :=
  match s.picker.running with
  | some o => if o.retry < 2 then s.modOrder o.id fun o => { o with retry := o.retry + 1 } else s.pickerFault .gripFault
  | none => if s.picker.homeRetry < 2 then s.setPicker { s.picker with homeRetry := s.picker.homeRetry + 1 } else s.pickerFault .gripFault

/-- A report that R33 does not list for the command outstanding counts as PATH_BLOCKED; one that answers no command is discarded. -/
def Ctl.strayReport (s : Ctl) : Ctl := if s.picker.cmd.isSome then s.pickerFault .pathBlocked else s

/-! ## PUT (R34, R35, R36, R40) -/

/-- A put-back after a mismatch has been made: the order fails (R34). -/
def Ctl.putBackDone (s : Ctl) (o : Order) : Ctl :=
  match o.source.element? with
  | some src =>
    let l := s.labelAt .gripper
    let s1 := s.setDown src id
    let s2 := match src with
      | .transport c => s1.presentUnthreaded c
      | _ => s1
    (s2.pickerIdle).orderFailed o .mismatch l
  | none => s

/-- A PUT is answered DONE. -/
def Ctl.putDone (s : Ctl) : Ctl :=
  match s.picker.phase, s.picker.running with
  | .putting d, some o => s.answered.orderDone o d
  | .puttingBack, some o => s.answered.putBackDone o
  | .scanGripPut d, some o =>
    (s.answered.setDown d fun en => match d with | .slot i => { en with home := some i } | _ => en).scanDone o
  | .homePutBack d, _ => (s.setDown d id).settled
  | _, _ => s

/-! ## READ -/

/-- The READ of M in place of an import's FETCH (R20). DESIGN CHOICE (log 76): one that reports no cartridge, for which R20's table has no row, ends the import as an empty M does at its start:
M is EMPTY, the reason NO_CARTRIDGE, no NO_SLOT is sent, and the catalog location of M's last known cartridge stays. -/
def Ctl.importReadDone (s : Ctl) (o : Order) (r : ReadReport) : Ctl :=
  match r with
  | .noCartridge => ((s.fill .mail .empty none).pickerIdle).orderFailed o .noCartridge none
  | _ =>
    let s1 := ((s.setLoc (s.labelAt .mail) none).fill .mail .uncertain none).foundAt .mail (validRead r) s.climate.acclimation
    let l := s1.labelAt .mail
    ((s1.notifyAll (.noSlot l .mail)).pickerIdle).orderFailed o .elementFull l

/-- A READ is answered. -/
def Ctl.readDone (s : Ctl) (r : ReadReport) : Ctl :=
  match s.picker.phase, s.picker.running with
  | .scanning (e :: rest), some o => s.answered.scanRead o e rest r
  | .scanStopped, some o => s.answered.scanOver o
  | .scanGripRead, some o => (s.answered.auditElement .gripper r (s.scanAcclim o)).scanPutAway o
  | .importRead, some o => s.answered.importReadDone o r
  | .homeReading e, _ => s.answered.homeRead e r
  | _, _ => s

end Sys2Proof.Machine
end

