-- ==== Sys2Proof/Machine/ElementRequests.lean ====
section
/-! DEFINITION. The requests of chapter 1: READ_INVENTORY, RESERVE, RELEASE, SET_PROTECT, OPEN_DOOR, GRANT_QUIESCE, WITHDRAW_QUIESCE, IMPORT and EXPORT. Each
`Ctl.answer…` is the owner's answer to a request taken at the head of a port's queue; each `exec…` takes that request. -/

namespace Sys2Proof.Machine

/-! ## READ_INVENTORY (R10) -/

/-- What READ_INVENTORY reports of an element. -/
def Ctl.inventoryAnswer (s : Ctl) (e : Element) : InventoryAnswer :=
  { element := e, contents := s.elem e, cls := (s.labelAt e).map classOf,
    catalogued := (match s.labelAt e with | some l => (s.cat.cart? l).isSome | none => false),
    door := e.mag.map fun m => (s.door m).state, mail := s.inv.mail.state, key := s.inv.key, protect := s.inv.protect,
    isProtected := s.slotProtected e }

def Ctl.answerReadInventory (s : Ctl) (p : Requester) (tag e : Nat) : Ctl :=
  match Element.ofId e with
  | some x => s.respond p tag .ok (.inventory (s.inventoryAnswer x))
  | none => s.respond p tag .badArgument

def execReadInventory (p : Requester) (e : Nat) (s : State) : Host.Outcome State Fault Refusal :=
  s.run fun k => k.takeRequest p (.readInventory e) fun tag k => k.answerReadInventory p tag e

/-! ## RESERVE and RELEASE (R5) -/

def Ctl.answerReserve (s : Ctl) (p : Requester) (tag e : Nat) : Ctl :=
  match Element.ofId e with
  | none => s.respond p tag .badArgument
  | some .gripper => s.respond p tag .badArgument
  | some x =>
    match (s.elem x).reserved with
    | none => (s.respond p tag .ok).reserveFor x (some p)
    | some q => if q = p then s.respond p tag .ok else s.respond p tag .reserved

def execReserve (p : Requester) (e : Nat) (s : State) : Host.Outcome State Fault Refusal :=
  s.run fun k => k.takeRequest p (.reserve e) fun tag k => k.answerReserve p tag e

/-- A released element may be what a session in NEED_CARTRIDGE waits for (R113). -/
def Ctl.answerRelease (s : Ctl) (p : Requester) (tag e : Nat) : Ctl :=
  match Element.ofId e with
  | none => s.respond p tag .badArgument
  | some x =>
    match (s.elem x).reserved with
    | none => (s.respond p tag .ok).rechooseAll
    | some q => if q = p then ((s.respond p tag .ok).reserveFor x none).rechooseAll else s.respond p tag .notOwner

def execRelease (p : Requester) (e : Nat) (s : State) : Host.Outcome State Fault Refusal :=
  s.run fun k => k.takeRequest p (.release e) fun tag k => k.answerRelease p tag e

/-! ## SET_PROTECT (R7, R9) -/

def protectDirOf (n : Nat) : Option ProtectDir :=
  match n with
  | 0 => some .bottom
  | 1 => some .top
  | _ => none

def Ctl.answerSetProtect (s : Ctl) (p : Requester) (tag dir idx : Nat) : Ctl :=
  if s.inv.key = .lock then s.respond p tag .keyLocked
  else
    match protectDirOf dir with
    | some d => if idx ≤ 8 then (((s.respond p tag .ok).setProtectCode { dir := d, idx := idx }).changed).rechooseAll else s.respond p tag .badArgument
    | none => s.respond p tag .badArgument

def execSetProtect (p : Requester) (dir idx : Nat) (s : State) : Host.Outcome State Fault Refusal :=
  s.run fun k => k.takeRequest p (.setProtect dir idx) fun tag k => k.answerSetProtect p tag dir idx

/-! ## Doors (R11, R12) -/

/-- A link's mark at the ask: granted for the requester and for an offline link (R11). -/
def Ctl.markAtAsk (s : Ctl) (p : Requester) (l : Link) : Bool := p = .link l || !(s.link l).online

/-- The door enters ASKING (R11); a requester is recorded, the links that must grant are asked, and the unlock condition is tested. -/
def Ctl.askDoor (s : Ctl) (p : Requester) (m : Mag) : Ctl :=
  let granted : PerLink Bool := ⟨s.markAtAsk p .a, s.markAtAsk p .b⟩
  let asked : PerLink Bool := ⟨!granted.a, !granted.b⟩
  (((s.setDoor m { state := .asking, requester := some p, granted := granted, asked := asked, askTimer := true, openTimer := false }).notifyAsked asked
    (.quiesceAsk m))).doorTest m

def Ctl.answerOpenDoor (s : Ctl) (p : Requester) (tag m : Nat) : Ctl :=
  match magOf m with
  | none => s.respond p tag .badArgument
  | some m =>
    if s.inv.key = .lock ∧ s.magProtected m = true then s.respond p tag .keyLocked
    else if (s.door m).state ≠ .locked then s.respond p tag .wrongState
    else (s.respond p tag .accepted).askDoor p m

def execOpenDoor (p : Requester) (m : Nat) (s : State) : Host.Outcome State Fault Refusal :=
  s.run fun k => k.takeRequest p (.openDoor m) fun tag k => k.answerOpenDoor p tag m

/-- A link's grant mark becomes granted. -/
def Ctl.markGranted (s : Ctl) (m : Mag) (l : Link) : Ctl := s.setDoor m { s.door m with granted := (s.door m).granted.set l true }

def Ctl.answerGrantQuiesce (s : Ctl) (p : Requester) (tag m : Nat) : Ctl :=
  match magOf m, p with
  | some m, .link l =>
    if (s.door m).state = .asking then ((s.respond p tag .ok).markGranted m l).doorTest m else s.respond p tag .wrongState
  | _, _ => s.respond p tag .badArgument

def execGrantQuiesce (p : Requester) (m : Nat) (s : State) : Host.Outcome State Fault Refusal :=
  s.run fun k => k.takeRequest p (.grantQuiesce m) fun tag k => k.answerGrantQuiesce p tag m

def Ctl.answerWithdrawQuiesce (s : Ctl) (p : Requester) (tag m : Nat) : Ctl :=
  match magOf m with
  | some m =>
    let s1 := s.respond p tag .ok
    if (s.door m).state = .asking then s1.doorRefused m .doorRefused else s1
  | none => s.respond p tag .badArgument

def execWithdrawQuiesce (p : Requester) (m : Nat) (s : State) : Host.Outcome State Fault Refusal :=
  s.act fun k => k.takeRequest p (.withdrawQuiesce m) fun tag k => k.answerWithdrawQuiesce p tag m

/-! ## IMPORT and EXPORT (R19, R21) -/

/-- The mail slot opens for an import (R19): a named slot that no one has reserved is reserved until the import ends. -/
def Ctl.mailOpenImport (s : Ctl) (p : Requester) (dest : Option (Fin 24)) : Ctl :=
  let fresh : Option (Fin 24) := dest.filter fun i => (s.elem (.slot i)).reserved.isNone
  let s1 := match fresh with
    | some i => s.reserveFor (.slot i) (some p)
    | none => s
  s1.setMail { s1.inv.mail with state := .openImport, requester := some p, dest := dest, reservedSlot := fresh, label := none, timer := true, switchOpen := false }

/-- The slot an IMPORT names: `none` for an argument that is neither ANY nor a slot. -/
def importSlot : ImportDest → Option (Option (Fin 24))
  | .any => some none
  | .element id =>
    match Element.ofId id with
    | some (.slot i) => some (some i)
    | _ => none

/-- IMPORT's table (R19). DEDUCED from R6: M, the source of the import's move, is also judged for reservations. -/
def Ctl.importAnswer (s : Ctl) (p : Requester) (dest : Option (Fin 24)) : Code :=
  let e : Option Element := dest.map .slot
  if s.inv.mail.state ≠ .locked then .wrongState
  else if (s.elem .mail).occ ≠ .empty then .elementFull
  else if e.any fun x => (s.elem x).occ ≠ .empty then .elementFull
  else if e.any s.slotProtected then .isProtected
  else if s.reservedByOther (some p) .mail ∨ (e.any fun x => s.reservedByOther (some p) x) = true then .reserved
  else if e.any s.doorBusy then .doorBusy
  else .accepted

def Ctl.answerImport (s : Ctl) (p : Requester) (tag : Nat) (d : ImportDest) : Ctl :=
  match importSlot d with
  | none => s.respond p tag .badArgument
  | some dest =>
    let code := s.importAnswer p dest
    let s1 := s.respond p tag code
    if code = .accepted then s1.mailOpenImport p dest else s1

def execImportCart (p : Requester) (d : ImportDest) (s : State) : Host.Outcome State Fault Refusal :=
  s.run fun k => k.takeRequest p (.importCart d) fun tag k => k.answerImport p tag d

/-- EXPORT's table (R21) for a cartridge standing at an element. -/
def Ctl.exportAnswer (s : Ctl) (p : Requester) (l : Label) (e : Element) : Code :=
  if s.inv.mail.state ≠ .locked then .wrongState
  else if s.entryProtected (s.elem e).entry then .isProtected
  else if s.inUse l then .inUse
  else if s.reservedByOther (some p) e ∨ s.reservedByOther (some p) .mail = true then .reserved
  else if e ≠ .mail ∧ (s.elem .mail).occ ≠ .empty then .elementFull
  else if s.doorBusy e then .doorBusy
  else .accepted

/-- The export's move to M, or the open mail slot for a cartridge already there (R21). -/
def Ctl.beginExport (s : Ctl) (p : Requester) (l : Label) (e : Element) : Ctl :=
  if e = .mail then s.mailOpenExport (some p) l
  else
    s.raiseOrder { Order.blank with
      requester := some p, raisedBy := some .inventory, kind := .move, source := .element e, dest := .element .mail, wanted := some l, role := .exportMove l }

def Ctl.answerExport (s : Ctl) (p : Requester) (tag : Nat) (l : Label) : Ctl :=
  match s.findLabel l with
  | none => s.respond p tag .notFound
  | some e =>
    let code := s.exportAnswer p l e
    let s1 := s.respond p tag code
    if code = .accepted then s1.beginExport p l e else s1

def execExportCart (p : Requester) (l : Label) (s : State) : Host.Outcome State Fault Refusal :=
  s.run fun k => k.takeRequest p (.exportCart l) fun tag k => k.answerExport p tag l

end Sys2Proof.Machine
end

