-- ==== Sys2Proof/Machine/MoveRequests.lean ====
section
/-! DEFINITION. The requests of chapter 2: MOVE, LOAD, UNLOAD, CANCEL_MOVE, RESUME_PICKER and READ_QUEUE (R27, R40 to R42). -/

namespace Sys2Proof.Machine

/-! ## MOVE, LOAD and UNLOAD (R27) -/

/-- The order a MOVE asks for: `none` where an element is of the wrong kind. A MOVE from a transport is an order of kind UNLOAD. -/
def moveOrder (p : Requester) (src dst : Nat) : Option Order :=
  match Element.ofId src, Element.ofId dst with
  | some _, some (.transport _) => none
  | some _, some .gripper => none
  | some x, some y =>
    some { Order.blank with requester := some p, internal := false, kind := (match x with | .transport _ => .unload | _ => .move), source := .element x,
                            dest := .element y }
  | _, _ => none

def loadOrder (p : Requester) (src dst : Nat) : Option Order :=
  match Element.ofId src, Element.ofId dst with
  | some (.slot i), some (.transport c) =>
    some { Order.blank with requester := some p, internal := false, kind := .load, source := .element (.slot i), dest := .element (.transport c) }
  | _, _ => none

def unloadOrder (p : Requester) (src : Nat) (dst : UnloadDest) : Option Order :=
  match Element.ofId src, dst with
  | some (.transport c), .home =>
    some { Order.blank with requester := some p, internal := false, kind := .unload, source := .element (.transport c), dest := .home }
  | some (.transport c), .element d =>
    match Element.ofId d with
    | some (.slot i) => some { Order.blank with requester := some p, internal := false, kind := .unload, source := .element (.transport c), dest := .element (.slot i) }
    | _ => none
  | _, _ => none

/-- The elements a request's order names, with the home slot of an UNLOAD to HOME (R6, R13). -/
def Ctl.requestNames (s : Ctl) (o : Order) : List Element := o.source.element?.toList ++ o.dest.element?.toList ++ (s.homeNamed o).toList

/-- The protection rules at the request (R8): HOME leads a protected cartridge to its own slot. -/
def Ctl.requestForbidden (s : Ctl) (o : Order) : Bool :=
  let en := o.source.element?.bind fun e => (s.elem e).entry
  match o.dest with
  | .element d => s.protectForbids en o.kind o.purpose d
  | _ => false

/-- R27's checks on an order of the right kinds, in their order, after PICKER_FAULTED and BAD_ARGUMENT. -/
def Ctl.orderAnswer (s : Ctl) (p : Requester) (o : Order) : Code :=
  let named := o.source.element?.toList ++ o.dest.element?.toList
  if named.any fun e => (s.elem e).occ = .uncertain then .wrongState
  else if o.kind = .unload ∧ (o.sourceTransport.any fun c => (s.elem (.transport c)).occ = .empty) = true then .noCartridge
  else if o.kind = .load ∧ (o.destTransport.any fun c => !s.chanIdle c) = true then .channelBusy
  else if (o.source.element?.bind s.labelAt).any s.usedByActivity then .inUse
  else if (s.requestNames o).any (s.reservedByOther (some p)) then .reserved
  else if s.requestForbidden o then .isProtected
  else if (s.requestNames o).any s.doorBusy then .doorBusy
  else if Config.moveQueueRoom ≤ s.picker.queue.length then .queueFull
  else .accepted

/-- The answer to a request that adds an order, and the order's entry (R26, R27). -/
def Ctl.answerOrder (s : Ctl) (p : Requester) (tag : Nat) (o : Option Order) : Ctl :=
  if s.picker.state = .faulted then s.respond p tag .pickerFaulted
  else
    match o with
    | none => s.respond p tag .badArgument
    | some o =>
      let code := s.orderAnswer p o
      if code = .accepted then (s.respond p tag .accepted (.orderId s.picker.freeId)).enter o else s.respond p tag code

def execMove (p : Requester) (src dst : Nat) (s : State) : Host.Outcome State Fault Refusal :=
  s.run fun k => k.takeRequest p (.move src dst) fun tag k => k.answerOrder p tag (moveOrder p src dst)

def execLoad (p : Requester) (src dst : Nat) (s : State) : Host.Outcome State Fault Refusal :=
  s.run fun k => k.takeRequest p (.load src dst) fun tag k => k.answerOrder p tag (loadOrder p src dst)

def execUnload (p : Requester) (src : Nat) (dst : UnloadDest) (s : State) : Host.Outcome State Fault Refusal :=
  s.run fun k => k.takeRequest p (.unload src dst) fun tag k => k.answerOrder p tag (unloadOrder p src dst)

/-! ## CANCEL_MOVE (R41) -/

def Ctl.cancelAnswer (p : Requester) (o : Order) : Code :=
  if o.internal then .notPermitted
  else if o.requester ≠ some p then .notOwner
  else if o.state = .running then .wrongState
  else .ok

def Ctl.answerCancelMove (s : Ctl) (p : Requester) (tag id : Nat) : Ctl :=
  match s.picker.queue.find? fun o => o.id = id with
  | none => s.respond p tag .notFound
  | some o =>
    let code := Ctl.cancelAnswer p o
    let s1 := s.respond p tag code
    if code = .ok then s1.leave id else s1

def execCancelMove (p : Requester) (id : Nat) (s : State) : Host.Outcome State Fault Refusal :=
  s.run fun k => k.takeRequest p (.cancelMove id) fun tag k => k.answerCancelMove p tag id

/-! ## RESUME_PICKER (R40) -/

/-- The picker enters HOMING, with HOME sent (R40, R45). -/
def Ctl.beginHoming (s : Ctl) : Ctl := (s.setPicker { s.picker with state := .homing, homeRetry := 0 }).command .home .homing

def Ctl.answerResumePicker (s : Ctl) (p : Requester) (tag : Nat) : Ctl :=
  if s.picker.state = .faulted then (s.respond p tag .accepted).beginHoming else s.respond p tag .wrongState

def execResumePicker (p : Requester) (s : State) : Host.Outcome State Fault Refusal :=
  s.run fun k => k.takeRequest p .resumePicker fun tag k => k.answerResumePicker p tag

/-! ## READ_QUEUE (R42) -/

def Ctl.shownOrder (s : Ctl) (o : Order) : ShownOrder :=
  { id := o.id, requester := o.requester, internal := o.internal, kind := o.kind, source := o.source, dest := o.dest, state := s.shownState o, retry := o.retry }

def Ctl.queueAnswer (s : Ctl) : QueueAnswer :=
  { state := s.picker.state, cmd := if s.picker.state = .busy then s.picker.cmd else none,
    fault := if s.picker.state = .faulted then s.picker.lastFault else none, gripper := (s.elem .gripper).occ, gripperLabel := s.labelAt .gripper,
    orders := s.picker.queue.map s.shownOrder, held := s.picker.held.length + s.picker.auditOffers.length }

def Ctl.answerReadQueue (s : Ctl) (p : Requester) (tag : Nat) : Ctl := s.respond p tag .ok (.queue s.queueAnswer)

def execReadQueue (p : Requester) (s : State) : Host.Outcome State Fault Refusal :=
  s.run fun k => k.takeRequest p .readQueue fun tag k => k.answerReadQueue p tag

end Sys2Proof.Machine
end

