-- ==== Sys2Proof/Machine/PickerReports.lean ====
section
/-! DEFINITION. The start of an order and the motion board's reports (R31, R33): each report answers the command outstanding that its table lists it for. -/

namespace Sys2Proof.Machine

def execOrderStart (s : State) : Host.Outcome State Fault Refusal := s.act Ctl.orderStart

/-- FETCH is answered DONE with the label, or LABEL_UNREADABLE (R34). -/
def Ctl.fetchReport (s : Ctl) (r : LabelRead) : Ctl :=
  match s.picker.cmd, s.picker.phase, s.picker.running with
  | some (.fetch src), .fetching dest, some o => s.answered.fetched o src dest r
  | _, _, _ => s.strayReport

def execFetchDone (r : LabelRead) (s : State) : Host.Outcome State Fault Refusal := s.act fun k => k.fetchReport r

/-- FETCH is answered EMPTY (R34). -/
def Ctl.fetchEmptyReport (s : Ctl) : Ctl :=
  match s.picker.cmd, s.picker.running with
  | some (.fetch src), some o => s.answered.fetchedNothing o src
  | _, _ => s.strayReport

def execFetchEmpty (s : State) : Host.Outcome State Fault Refusal := s.act Ctl.fetchEmptyReport

/-- PUT is answered DONE (R35). -/
def Ctl.putReport (s : Ctl) : Ctl :=
  match s.picker.cmd with
  | some (.put _) => s.putDone
  | _ => s.strayReport

def execPutDone (s : State) : Host.Outcome State Fault Refusal := s.act Ctl.putReport

/-- READ is answered DONE (R36). -/
def Ctl.readReport (s : Ctl) (r : ReadReport) : Ctl :=
  match s.picker.cmd with
  | some (.read _) => s.readDone r
  | _ => s.strayReport

def execReadDone (r : ReadReport) (s : State) : Host.Outcome State Fault Refusal := s.act fun k => k.readReport r

/-- HOME is answered DONE with the gripper EMPTY or HOLDING (R40). -/
def Ctl.homeReport (s : Ctl) (holding transportHolds : Bool) : Ctl :=
  match s.picker.cmd with
  | some .home => s.answered.homeDone holding transportHolds
  | _ => s.strayReport

def execHomeDone (holding transportHolds : Bool) (s : State) : Host.Outcome State Fault Refusal := s.act fun k => k.homeReport holding transportHolds

/-- GRIP_FAULT answers a FETCH or a PUT (R37). -/
def Ctl.gripReport (s : Ctl) : Ctl :=
  match s.picker.cmd with
  | some (.fetch _) => s.gripFault
  | some (.put _) => s.gripFault
  | _ => s.strayReport

def execGripFault (s : State) : Host.Outcome State Fault Refusal := s.act Ctl.gripReport

/-- PATH_BLOCKED answers any command (R38). -/
def Ctl.blockedReport (s : Ctl) : Ctl := if s.picker.cmd.isSome then s.pickerFault .pathBlocked else s

def execPathBlocked (s : State) : Host.Outcome State Fault Refusal := s.act Ctl.blockedReport

/-- The 60 s timer of the command expires (R33, R38). -/
def Ctl.commandExpired (s : Ctl) : Ctl := if s.picker.cmd.isSome then s.pickerFault .timeout else s

def execCommandTimerExpiry (s : State) : Host.Outcome State Fault Refusal := s.act Ctl.commandExpired

end Sys2Proof.Machine
end

