-- ==== Sys2Proof/Machine/Answers.lean ====
section
/-! DEFINITION. The bytes of the frames a port sends (11.1): responses with their results, notices with their fields, DATA_IN and CREDIT frames, and what a read of the panel port
returns at each byte (R180). The widths and the numbers of named values follow 11.1; DESIGN CHOICE (log 53): how lists and the parts of a result are set out. -/

namespace Sys2Proof.Machine

/-! ## Fields -/

/-- A mark whose values the manual does not name, in one byte: 1 set, 0 clear (log 53). -/
def flagByte (b : Bool) : List Byte := byteOf (if b then 1 else 0)

/-- A value that the manual names yes or no, or on or off: the position of `yes` before `no`, or of `on` before `off` (11.1, log 4). -/
def yesByte (b : Bool) : List Byte := byteOf (if b then 0 else 1)

/-- A field that may be absent: 1 and the field, or 0 (11.1). -/
def absentOr (f : α → List Byte) : Option α → List Byte
  | some x => byteOf 1 ++ f x
  | none => byteOf 0

/-- A list: the number of its entries in one byte, then the entries. -/
def listBytes (f : α → List Byte) (xs : List α) : List Byte := byteOf xs.length ++ xs.flatMap f

def signedWord (t : Int) : List Byte := wordOf (if t < 0 then (t + 65536).toNat else t.toNat)

def labelBytes (l : Label) : List Byte := padLabel l
def codeByte (c : Code) : List Byte := byteOf c.num
def elementByte (e : Element) : List Byte := byteOf e.id
def linkByte (l : Link) : List Byte := byteOf l.ctorIdx
def chanByte (c : Chan) : List Byte := byteOf c.ctorIdx

def requesterByte : Requester → List Byte
  | .link .a => byteOf 0
  | .link .b => byteOf 1
  | .panel => byteOf 2

/-! ## Notices (11.7) -/

/-- The cause of a HOLD notice: a watch, the sensor, or the hold cleared. -/
def HoldCause.bytes : HoldCause → List Byte
  | .watch w => byteOf w.ctorIdx
  | .sensor => byteOf 2
  | .cleared => byteOf 3

/-- The fields of a notice, in the order its chapter lists them. -/
def Notice.fields : Notice → List Byte
  | .quiesceAsk m => byteOf m.ctorIdx
  | .door m st cause => byteOf m.ctorIdx ++ byteOf st.ctorIdx ++ codeByte cause
  | .duplicateLabel l e => labelBytes l ++ elementByte e
  | .noSlot l e => absentOr labelBytes l ++ elementByte e
  | .mailSlot d o l => byteOf d.ctorIdx ++ codeByte o ++ absentOr labelBytes l
  | .moveDone i => byteOf i
  | .moveFailed i r => byteOf i ++ codeByte r
  | .pickerFaulted r => byteOf PickerState.faulted.ctorIdx ++ codeByte r
  | .pickerIdle => byteOf PickerState.idle.ctorIdx
  | .climate w q r => byteOf w.ctorIdx ++ byteOf q.ctorIdx ++ signedWord r
  | .sensorFault n => byteOf n
  | .hold on cause => yesByte on ++ cause.bytes
  | .earlyWarning s l => wordOf s ++ labelBytes l
  | .transport c st => elementByte (.transport c) ++ byteOf st.ctorIdx
  | .sessionReady s c l => wordOf s ++ chanByte c ++ labelBytes l
  | .needCartridge s => wordOf s
  | .syncDone s n => wordOf s ++ beBytes 4 n
  | .setClosed s b r n c => wordOf s ++ beBytes 4 b ++ beBytes 4 r ++ beBytes 8 n ++ beBytes 8 c
  | .sessionEnded s how r n => wordOf s ++ byteOf how.ctorIdx ++ codeByte r ++ beBytes 4 n
  | .sessionSuspending s => wordOf s
  | .sessionSuspended s => wordOf s
  | .sessionResumed s => wordOf s
  | .verifyDone s o p b r => wordOf s ++ byteOf o.ctorIdx ++ byteOf p ++ beBytes 4 b ++ absentOr codeByte r
  | .restoreStarted i s c => byteOf i ++ wordOf s ++ chanByte c
  | .restoreDamage i a b r => byteOf i ++ beBytes 4 a ++ beBytes 4 b ++ codeByte r
  | .restoreDone i s o d n r f =>
    byteOf i ++ wordOf s ++ byteOf o.ctorIdx ++ beBytes 4 d ++ beBytes 4 n ++ absentOr codeByte r ++ absentOr (beBytes 4) f
  | .checkpointDone ok => byteOf (if ok then 0 else 1)
  | .checkpointFailed => []
  | .store st => byteOf st.ctorIdx
  | .reloadDone loaded => byteOf (if loaded then 0 else 1)
  | .recoverDone l o a b r => labelBytes l ++ byteOf o.ctorIdx ++ byteOf a ++ byteOf b ++ absentOr codeByte r
  | .recoverConflict l s => labelBytes l ++ wordOf s
  | .resetDone cause => byteOf cause.ctorIdx

/-! ## Results -/

/-- A cartridge entry, with the class and the catalogued flag that its label gives, each field in the order R2 lists them. -/
def Entry.bytes (e : Entry) (cls : Option CartClass) (catalogued : Bool) : List Byte :=
  absentOr labelBytes e.label ++ absentOr (fun c : CartClass => byteOf c.ctorIdx) cls ++ absentOr (fun i => elementByte (.slot i)) e.home ++ byteOf e.acclim
    ++ byteOf e.tab.ctorIdx ++ yesByte catalogued

/-- READ_INVENTORY (R10). -/
def InventoryAnswer.bytes (a : InventoryAnswer) : List Byte :=
  byteOf a.contents.occ.ctorIdx ++ absentOr (fun e : Entry => e.bytes a.cls a.catalogued) a.contents.entry
    ++ absentOr requesterByte a.contents.reserved ++ absentOr (fun d : DoorState => byteOf d.ctorIdx) a.door
    ++ byteOf a.mail.ctorIdx ++ byteOf a.key.ctorIdx ++ byteOf a.protect.dir.ctorIdx ++ byteOf a.protect.idx ++ flagByte a.isProtected

def OrderSource.bytes : OrderSource → List Byte
  | .element e => byteOf 0 ++ elementByte e
  | .magazine m => byteOf 1 ++ byteOf m.ctorIdx
  | .none => byteOf 2

def OrderDest.bytes : OrderDest → List Byte
  | .element e => byteOf 0 ++ elementByte e
  | .home => byteOf 1
  | .any => byteOf 2
  | .none => byteOf 3

/-- One order of READ_QUEUE (R42). -/
def ShownOrder.bytes (o : ShownOrder) : List Byte :=
  byteOf o.id ++ absentOr requesterByte o.requester ++ yesByte o.internal ++ byteOf o.kind.ctorIdx ++ o.source.bytes ++ o.dest.bytes ++ byteOf o.state.ctorIdx
    ++ byteOf o.retry

def MotionCmd.bytes : MotionCmd → List Byte
  | .home => byteOf 0
  | .fetch e => byteOf 1 ++ elementByte e
  | .put e => byteOf 2 ++ elementByte e
  | .read e => byteOf 3 ++ elementByte e

/-- READ_QUEUE (R42). -/
def QueueAnswer.bytes (a : QueueAnswer) : List Byte :=
  byteOf a.state.ctorIdx ++ absentOr MotionCmd.bytes a.cmd ++ absentOr codeByte a.fault ++ byteOf a.gripper.ctorIdx ++ absentOr labelBytes a.gripperLabel
    ++ listBytes ShownOrder.bytes a.orders ++ byteOf a.held

def Reading.bytes (r : Reading) : List Byte := signedWord r.value ++ beBytes 4 r.age

def watchBytes (w : Watch) (r : WatchResult) : List Byte :=
  yesByte w.enabled ++ byteOf w.quantity.ctorIdx ++ signedWord w.threshold ++ byteOf w.direction.ctorIdx ++ byteOf w.action.ctorIdx ++ yesByte r.valid
    ++ yesByte r.crossed

/-- READ_CLIMATE (R53). The fail-safe hold flag and the hold are each on or off (R50, R52). -/
def ClimateAnswer.bytes (a : ClimateAnswer) : List Byte :=
  absentOr Reading.bytes a.temperature ++ absentOr Reading.bytes a.humidity ++ watchBytes a.watches.w1 a.results.w1 ++ watchBytes a.watches.w2 a.results.w2
    ++ byteOf a.sampling.ctorIdx ++ byteOf a.next.ctorIdx ++ byteOf a.interval ++ byteOf a.failures ++ yesByte a.failSafe ++ yesByte a.hold
    ++ byteOf a.acclimation

/-- READ_CARTRIDGE (R75): every field of the record, then the two figures. -/
def Cart.bytes (c : Cart) (cls : CartClass) (figure estimate : Nat) : List Byte :=
  labelBytes c.label ++ byteOf cls.ctorIdx ++ wordOf c.generation ++ byteOf c.state.ctorIdx ++ absentOr elementByte c.loc ++ beBytes 4 c.frames
    ++ beBytes 4 c.eod ++ yesByte c.early ++ beBytes 8 c.native ++ beBytes 8 c.coded ++ listBytes wordOf c.sets ++ wordOf figure ++ beBytes 4 estimate

def Extent.bytes (x : Extent) : List Byte := labelBytes x.label ++ beBytes 4 x.firstPos ++ beBytes 4 x.firstBlock ++ beBytes 4 x.count

/-- READ_SET SUMMARY (R76). -/
def SummaryAnswer.bytes (a : SummaryAnswer) : List Byte :=
  wordOf a.id ++ linkByte a.owner ++ byteOf a.state.ctorIdx ++ wordOf a.writtenDay ++ wordOf a.retention ++ byteOf a.dict ++ byteOf a.dictGen
    ++ listBytes Extent.bytes a.extents ++ beBytes 4 a.blocks ++ beBytes 4 a.records ++ beBytes 8 a.native ++ beBytes 8 a.coded ++ wordOf a.ratio
    ++ byteOf a.indexPoints ++ beBytes 4 a.interval ++ byteOf a.verify.ctorIdx ++ beBytes 4 a.passes ++ beBytes 4 a.bad ++ listBytes (beBytes 4) a.badList
    ++ flagByte a.badMore

def IndexPoint.bytes (p : IndexPoint) : List Byte := beBytes 4 p.block ++ beBytes 4 p.record ++ yesByte p.cont

def Pattern.bytes : Pattern → List Byte
  | .all => byteOf 0
  | .everyNth n => byteOf 1 ++ byteOf n
  | .run k t => byteOf 2 ++ byteOf k ++ byteOf t

def Policy.bytes (p : Policy) : List Byte :=
  byteOf p.trigger.ctorIdx ++ byteOf p.skip ++ byteOf p.passes ++ byteOf p.mode.ctorIdx ++ p.pattern.bytes ++ byteOf p.overlap.ctorIdx

def ShownWorking.bytes (w : ShownWorking) : List Byte :=
  beBytes 4 w.bad ++ listBytes (beBytes 4) w.badList ++ flagByte w.more ++ absentOr (beBytes 4) w.runRec ++ beBytes 4 w.expected ++ byteOf w.extent
    ++ absentOr (fun f : CodingFault => byteOf f.ctorIdx) w.fault

/-- One entry of READ_VERIFY (R152). -/
def ShownVerify.bytes (v : ShownVerify) : List Byte :=
  wordOf v.set ++ byteOf v.origin.ctorIdx ++ absentOr requesterByte v.requestedBy ++ byteOf v.mode.ctorIdx ++ v.pattern.bytes ++ byteOf v.passes
    ++ byteOf v.passesLeft ++ byteOf v.state.ctorIdx ++ absentOr (beBytes 4) v.resume ++ absentOr ShownWorking.bytes v.working

/-- The results of a response, in the order its chapter lists them. -/
def Result.bytes : Result → List Byte
  | .none => []
  | .orderId n => byteOf n
  | .setId n => wordOf n
  | .restoreId n => byteOf n
  | .threshold t => signedWord t
  | .stored n => wordOf n
  | .setting n => byteOf n
  | .inventory a => a.bytes
  | .queue a => a.bytes
  | .climate a => a.bytes
  | .cartridge c cls r e => c.bytes cls r e
  | .setSummary a => a.bytes
  | .setIndex ps n => listBytes IndexPoint.bytes ps ++ byteOf n
  | .setIds ids more => listBytes wordOf ids ++ flagByte more
  | .generation g => byteOf g
  | .dictionary g n bs referenced => byteOf g ++ wordOf n ++ bs ++ flagByte referenced
  | .policy p => p.bytes
  | .verify ps ks es => ps.a.bytes ++ byteOf ks.a ++ ps.b.bytes ++ byteOf ks.b ++ listBytes ShownVerify.bytes es
  | .store st p a r => byteOf st.ctorIdx ++ yesByte p ++ yesByte a ++ absentOr labelBytes r

/-! ## Whole frames -/

def Response.bytes (r : Response) : List Byte := frameBytes 2 (byteOf r.tag ++ codeByte r.code ++ r.result.bytes)

def Notice.bytes (n : Notice) (overflow : Bool) : List Byte := frameBytes 3 (byteOf n.code ++ flagByte overflow ++ n.fields)

/-- A DATA_IN frame: bit 0 end-of-record, bit 1 damaged. -/
def DataIn.bytes (d : DataIn) : List Byte :=
  frameBytes 5 (chanByte d.chan ++ byteOf ((if d.eor then 1 else 0) + (if d.damaged then 2 else 0)) ++ d.payload)

/-- The bytes of a frame on a link. -/
def TxFrame.bytes : TxFrame → List Byte
  | .credit c n => frameBytes 6 (chanByte c ++ byteOf n)
  | .response r => r.bytes
  | .notice n o => n.bytes o
  | .data d => d.bytes

/-- The bytes of a frame the panel reads; the empty NOTICE frame has code 0 and no fields (R180). -/
def PanelFrame.bytes : PanelFrame → List Byte
  | .response r => r.bytes
  | .notice n o => n.bytes o
  | .emptyNotice => frameBytes 3 (byteOf 0 ++ flagByte false)

/-- The byte a read transaction returns at a place: past the end of the frame, 0xFF (R180). -/
def PanelFrame.byteAt (f : PanelFrame) (i : Nat) : Byte := (f.bytes[i]?).getD 0xFF#8

/-- The first `n` bytes of a read transaction. -/
def PanelFrame.readBytes (f : PanelFrame) (n : Nat) : List Byte := (List.range n).map f.byteAt

end Sys2Proof.Machine
end

