-- ==== Sys2Proof/Machine/RestoreRequests.lean ====
section
/-! DEFINITION. The requests of chapter 9, the credits and the stall timer of a restore, and the placement of waiting restores. -/

namespace Sys2Proof.Machine

/-! ## RESTORE (R155) -/

/-- A damage rule: STOP 0, SKIP 1. `true` is SKIP. -/
def skipOf (n : Nat) : Option Bool :=
  match n with
  | 0 => some false
  | 1 => some true
  | _ => none

/-- A count: `none` within is ALL; a count of 0, or what is neither a number nor ALL, is refused. -/
def countOf : CountArg → Option (Option Nat)
  | .count 0 => none
  | .count n => some (some n)
  | .all => some none
  | .other _ => none

/-- The last record of a restore, limited to the set's record count − 1. -/
def lastRecord (records first : Nat) : Option Nat → Nat
  | some n => min (first + n - 1) (records - 1)
  | none => records - 1

def RestoreUnit.freeId (u : RestoreUnit) : Nat :=
  firstFree Config.lastId ((u.queue ++ u.running).map (·.id)) ((u.queue ++ u.running).length + 1) u.nextId

/-- A context as the request creates it (R154, R159). -/
def RestoreCtx.fresh (id : Nat) (l : Link) (set first last : Nat) (skip : Bool) (block extent : Nat) : RestoreCtx :=
  { id := id, requester := l, set := set, first := first, last := last, skip := skip, state := .queued, chan := none, displaced := none,
    expected := block, nextRec := first, inDelivery := none, runRec := none, credits := 0, stall := false, delivered := 0, damaged := 0, startOff := 0,
    frames := [], damage := none, sending := false, extent := extent, judged := none, wasQueued := false, lastFault := none }

/-- R155's checks of the set and of the start cartridge, down to the reservation: the start block and its extent, or the refusal. -/
def Ctl.restoreChecks (s : Ctl) (l : Link) (set first : Nat) : Except Code (SetRec × Nat × Nat) :=
  match s.cat.set? set with
  | none => .error .notFound
  | some r =>
    if r.state = .expired then .error .setExpired
    else if r.state = .opening ∨ r.state = .writing then .error .wrongState
    else if r.dictGen ≠ s.dicts.gen r.dict then .error .dictionaryChanged
    else if r.records ≤ first then .error .badArgument
    else
      match r.startPlace first with
      | none => .error .noCartridge
      | some (b, e) =>
        match (s.extentLabel set e).bind s.cat.cart? with
        | none => .error .noCartridge
        | some k =>
          if k.loc = none then .error .noCartridge
          else if ((s.whereKnown k.label).any fun x => (s.elem x).reserved = some (.link l.other)) = true then .error .reserved
          else .ok (r, b, e)

/-- An accepted restore takes a channel, or enters the queue at the tail (R155, R157). -/
def Ctl.beginRestore (s : Ctl) (r : RestoreCtx) : Ctl :=
  match s.restoreTry r with
  | some s1 => s1
  | none => s.setRestore { s.restore with queue := s.restore.queue ++ [{ r with wasQueued := true }] }

def Ctl.answerRestore (s : Ctl) (p : Requester) (tag set first : Nat) (count : CountArg) (damage : Nat) : Ctl :=
  match p, skipOf damage, countOf count with
  | .link l, some skip, some n =>
    match s.restoreChecks l set first with
    | .error e => s.respond p tag e
    | .ok (x, b, e) =>
      let id := s.restore.freeId
      let r := RestoreCtx.fresh id l set first (lastRecord x.records first n) skip b e
      if s.restoreChoice r = .waits ∧ Config.restoreRoom ≤ s.restore.queue.length then s.respond p tag .busy
      else
        let s1 := s.respond p tag .accepted (.restoreId id)
        (s1.setRestore { s1.restore with nextId := wrapNext Config.lastId id }).beginRestore r
  | _, _, _ => s.respond p tag .badArgument

def execRestore (p : Requester) (set first : Nat) (count : CountArg) (damage : Nat) (s : State) : Host.Outcome State Fault Refusal :=
  s.act fun k => k.takeRequest p (.restore set first count damage) fun tag k => k.answerRestore p tag set first count damage

/-! ## CANCEL_RESTORE (R165) -/

def Ctl.answerCancelRestore (s : Ctl) (p : Requester) (tag id : Nat) : Ctl :=
  match s.restore.queue.find? fun r => r.id = id with
  | some r =>
    if p ≠ .link r.requester then s.respond p tag .notOwner
    else
      let s1 := s.respond p tag .ok
      s1.setRestore { s1.restore with queue := s1.restore.queue.filter fun q => q.id ≠ id }
  | none =>
    match s.restore? id with
    | some r => if p ≠ .link r.requester then s.respond p tag .notOwner else (s.respond p tag .ok).restoreEnd r .cancelled (some .cancelled) true
    | none => s.respond p tag .notFound

def execCancelRestore (p : Requester) (id : Nat) (s : State) : Host.Outcome State Fault Refusal :=
  s.act fun k => k.takeRequest p (.cancelRestore id) fun tag k => k.answerCancelRestore p tag id

/-! ## Credits, the stall timer, placement (R156, R162, R164) -/

/-- A CREDIT frame as it arrives on a link (R162, R175). -/
def Ctl.creditFrame (s : Ctl) (l : Link) (ch count : Nat) : Ctl :=
  if (s.link l).online then
    match ch with
    | 0 => s.restoreCredit l .c0 count
    | 1 => s.restoreCredit l .c1 count
    | _ => s
  else s

def execCreditFrameReceived (l : Link) (ch count : Nat) (s : State) : Host.Outcome State Fault Refusal := s.run fun k => k.creditFrame l ch count

/-- The stall timer expires: the restore is cancelled (R162). -/
def Ctl.stallExpired (s : Ctl) (c : Chan) : Ctl :=
  match s.restoreOn c with
  | some r => if r.stall then s.restoreEnd r .cancelled (some .stalled) true else s
  | none => s

def execStallTimerExpiry (c : Chan) (s : State) : Host.Outcome State Fault Refusal := s.act fun k => k.stallExpired c

/-- Restores in SWITCHING have their cartridge judged again, and the queue is looked through from the head (R156, R164). -/
def Ctl.placeRestores (s : Ctl) : Ctl :=
  let s1 := (s.restoreRejudge .c0).restoreRejudge .c1
  s1.restoreLook s1.restore.queue

def execRestorePlacement (s : State) : Host.Outcome State Fault Refusal := s.act Ctl.placeRestores

end Sys2Proof.Machine
end

