-- ==== Sys2Proof/Machine/PortEvents.lean ====
section
/-! DEFINITION. The events of the ports (chapter 11): request frames arriving, requests that cannot be read, frames sent, panel reads, and lock gained and lost. -/

namespace Sys2Proof.Machine

/-! ## Requests (R175, R176, R180) -/

/-- A REQUEST frame on a link: queued, or answered QUEUE_FULL at once. -/
def LinkPort.request (p : LinkPort) (q : QueuedReq) : LinkPort :=
  if p.requests.length < Config.linkRequestRoom then { p with requests := p.requests ++ [q] }
  else p.pushResponse { tag := q.tag, code := .queueFull, result := .none, atPort := true }

/-- A REQUEST frame on the panel port, where a request keeps its place until its response has been read. -/
def PanelPort.request (p : PanelPort) (q : QueuedReq) : PanelPort :=
  if p.requests.length + p.responses.length < Config.panelRequestRoom then { p with requests := p.requests ++ [q] }
  else { p with refusal := some { tag := q.tag, code := .queueFull, result := .none, atPort := true } }

/-- A REQUEST frame arrives. An OFFLINE link receives no frame. -/
def Ctl.requestArrives (s : Ctl) (p : Requester) (q : QueuedReq) : Ctl :=
  match p with
  | .link l => if (s.link l).online then s.setLink l ((s.link l).request q) else s
  | .panel => s.setPanel (s.panel.request q)

def execRequestFrame (p : Requester) (tag code : Nat) (args : List Byte) (s : State) : Host.Outcome State Fault Refusal :=
  s.run fun k => k.requestArrives p { tag := tag, code := code, args := args }

/-- The head request is not in the table, or its arguments are shorter or longer than it needs (R176). -/
def Ctl.refuseBad (s : Ctl) (p : Requester) : Ctl :=
  match s.headRequest p with
  | some q => if Req.decode q.code q.args = none then (s.popRequest p).respond p q.tag .badRequest else s
  | none => s

def execBadRequest (p : Requester) (s : State) : Host.Outcome State Fault Refusal := s.run fun k => k.refuseBad p

/-! ## Sending (R177, R180) -/

/-- The transmitter takes its next frame. -/
def Ctl.kick (s : Ctl) (l : Link) : Ctl := s.setLink l (s.link l).kick

/-- A frame has been sent; a DATA_IN frame is reported to its restore (R162). -/
def Ctl.frameSent (s : Ctl) (l : Link) : Ctl :=
  match (s.link l).tx with
  | none => s
  | some f =>
    let s1 := s.setLink l { s.link l with tx := none }
    match f with
    | .data d => (s1.restoreFrameSent l d).kick l
    | _ => s1.kick l

def execFrameSent (l : Link) (s : State) : Host.Outcome State Fault Refusal := s.act fun k => k.frameSent l

/-- What a read transaction returns (R180), and the port after it, when it was read whole. -/
def PanelPort.next (p : PanelPort) : PanelFrame × PanelPort :=
  match p.responses with
  | r :: rest => (.response r, { p with responses := rest })
  | [] =>
    match p.refusal with
    | some r => (.response r, { p with refusal := none })
    | none =>
      match p.notices with
      | n :: rest => (.notice n p.overflow, { p with notices := rest, overflow := false })
      | [] => (.emptyNotice, p)

def PanelPort.read (p : PanelPort) (whole : Bool) : PanelPort :=
  let (f, q) := p.next
  { (if whole then q else p) with lastRead := some f }

def execPanelRead (whole : Bool) (s : State) : Host.Outcome State Fault Refusal := s.run fun k => k.setPanel (k.panel.read whole)

/-! ## Lock (R178) -/

/-- A link's session on a channel judges its grants (R106). -/
def Ctl.grantFor (s : Ctl) (l : Link) (c : Chan) : Ctl :=
  match s.session c with
  | some x => if x.owner = l then s.grant c else s
  | none => s

/-- A link back ONLINE is asked for a door whose mark it has not granted (R14). -/
def Ctl.askBack (s : Ctl) (l : Link) (m : Mag) : Ctl :=
  let d := s.door m
  if d.state = .asking ∧ d.granted.get l = false then
    (s.setDoor m { d with asked := d.asked.set l true }).notifyLink l (.quiesceAsk m)
  else s

/-- Lock is gained. The grants are judged before the transmitter chooses, so that a CREDIT frame goes first (R177). -/
def Ctl.lockGained (s : Ctl) (l : Link) : Ctl :=
  if (s.link l).online then s
  else
    let s1 := s.setLink l { s.link l with online := true, offlineTimer := false }
    ((((((s1.grantFor l .c0).grantFor l .c1).kick l).askBack l .l).askBack l .r))

def execLockGained (l : Link) (s : State) : Host.Outcome State Fault Refusal := s.run fun k => k.lockGained l

/-- The frame being sent is abandoned, to be sent again whole (R178): it stands again at the head of its queue, a DATA_IN frame before those ready. -/
def LinkPort.abandon (p : LinkPort) : LinkPort :=
  match p.tx with
  | none => p
  | some (.credit c n) => { p with tx := none, creditFrames := (c, n) :: p.creditFrames }
  | some (.response r) => { p with tx := none, responses := r :: p.responses }
  | some (.notice n o) => { p with tx := none, notices := n :: p.notices, overflow := p.overflow || o }
  | some (.data d) => { p with tx := none, cut := some d }

/-- A link's session on a channel sets its credits to 0 (R117). -/
def Ctl.dropCreditsOf (s : Ctl) (l : Link) (c : Chan) : Ctl :=
  match s.session c with
  | some x => if x.owner = l then s.dropCredits c else s
  | none => s

/-- Lock is lost: credits 0 first, then the offline timer, then the link counts as granted for door asks (R14, R178). -/
def Ctl.lockLost (s : Ctl) (l : Link) : Ctl :=
  if (s.link l).online then
    let s1 := (s.dropCreditsOf l .c0).dropCreditsOf l .c1
    (s1.setLink l { (s1.link l).abandon with online := false, offlineTimer := true }).doorTests
  else s

def execLockLost (l : Link) (s : State) : Host.Outcome State Fault Refusal := s.run fun k => k.lockLost l

end Sys2Proof.Machine
end

