-- ==== Sys2Proof/Machine/StoreCommands.lean ====
section
/-! DEFINITION. The commands of chapter 10 but for RELOAD: CHECKPOINT, SET_AUTO_CHECKPOINT, READ_STORE, RECOVER_CARTRIDGE, and the flash's reports (R167 to R172). -/

namespace Sys2Proof.Machine

/-! ## Requests -/

def Ctl.answerCheckpoint (s : Ctl) (p : Requester) (tag : Nat) : Ctl := (s.respond p tag .accepted).askCheckpoint (some p)

def execCheckpoint (p : Requester) (s : State) : Host.Outcome State Fault Refusal :=
  s.run fun k => k.takeRequest p .checkpoint fun tag k => k.answerCheckpoint p tag

/-- The auto-checkpoint flag: on 0, off 1. -/
def onOf (n : Nat) : Option Bool :=
  match n with
  | 0 => some true
  | 1 => some false
  | _ => none

def Ctl.setAuto (s : Ctl) (b : Bool) : Ctl := (s.setStore { s.store with auto := b }).changed

def Ctl.answerSetAuto (s : Ctl) (p : Requester) (tag v : Nat) : Ctl :=
  match onOf v with
  | some b => (s.respond p tag .ok).setAuto b
  | none => s.respond p tag .badArgument

def execSetAutoCheckpoint (p : Requester) (v : Nat) (s : State) : Host.Outcome State Fault Refusal :=
  s.run fun k => k.takeRequest p (.setAutoCheckpoint v) fun tag k => k.answerSetAuto p tag v

def Ctl.answerReadStore (s : Ctl) (p : Requester) (tag : Nat) : Ctl :=
  s.respond p tag .ok (.store s.store.state s.store.pending s.store.auto (s.store.recovery.map (·.label)))

def execReadStore (p : Requester) (s : State) : Host.Outcome State Fault Refusal :=
  s.run fun k => k.takeRequest p .readStore fun tag k => k.answerReadStore p tag

/-! ## RECOVER_CARTRIDGE (R172) -/

/-- The channel a recovery claims. -/
def Ctl.recoverChannel (s : Ctl) (p : Requester) (l : Label) : Option Chan :=
  let own := (s.transportOf l).filter fun c => s.chanIdle c && (s.tr c).state ≠ .faulted
  own.orElse fun _ => [Chan.c0, Chan.c1].find? (s.freeChannelFor p)

/-- R172's checks, in their order: the channel, or the refusal. DEDUCED: its standing in a transport alone does not count as use, since the rule goes on to choose that
transport's channel. -/
def Ctl.recoverAnswer (s : Ctl) (p : Requester) (l : Label) : Except Code Chan :=
  match s.cat.cart? l with
  | none => .error .notFound
  | some k =>
    if k.state ≠ .unknown then .error .wrongState
    else if s.store.recovery.isSome then .error .busy
    else if k.loc = none then .error .noCartridge
    else
      match s.findLabel l with
      | none => .error .wrongState
      | some .gripper => .error .wrongState
      | some e =>
        if s.usedByActivity l then .error .inUse
        else if s.reservedByOther (some p) e then .error .reserved
        else if s.doorBusy e then .error .doorBusy
        else
          match s.recoverChannel p l with
          | some c => .ok c
          | none => .error .channelBusy

/-- A recovery begins: its channel is claimed, and its cartridge brought into the transport. -/
def Ctl.beginRecovery (s : Ctl) (p : Requester) (l : Label) (c : Chan) : Ctl :=
  let s1 := s.setChan c { s.chan c with claim := some .recovery }
  let s2 := s1.setStore { s1.store with recovery := some { label := l, requester := p, chan := c, gen := 0, pos := 0, notes := [], sets := [], leftOut := [],
                                                            frames := 0, native := 0, coded := 0, eod := 1, keptFrames := 0, keptNative := 0, keptCoded := 0 } }
  if s2.labelIn c = some l then
    s2.bringIn c .cThread .cVolLocate .cVolRead
  else s2.raiseLoad c l p .storeController .recover

def Ctl.answerRecover (s : Ctl) (p : Requester) (tag : Nat) (l : Label) : Ctl :=
  match s.recoverAnswer p l with
  | .error e => s.respond p tag e
  | .ok c => (s.respond p tag .accepted).beginRecovery p l c

def execRecoverCartridge (p : Requester) (l : Label) (s : State) : Host.Outcome State Fault Refusal :=
  s.act fun k => k.takeRequest p (.recoverCartridge l) fun tag k => k.answerRecover p tag l

/-! ## The flash (R168, R171) -/

/-- The image area has been erased: programming starts. -/
def Ctl.eraseDone (s : Ctl) : Ctl := if s.store.op = .erase then s.setStore { s.store with op := .program } else s

def execFlashEraseDone (s : State) : Host.Outcome State Fault Refusal := s.run Ctl.eraseDone

/-- A page has been programmed: one that reads back differently is a flash error; after the last the commit mark is programmed. -/
def Ctl.programDone (s : Ctl) (pageMatches lastPage : Bool) : Ctl :=
  if s.store.op = .program then
    if pageMatches then if lastPage then s.setStore { s.store with op := .commit } else s
    else s.checkpointFailed
  else s

def execFlashProgramDone (pageMatches lastPage : Bool) (s : State) : Host.Outcome State Fault Refusal := s.run fun k => k.programDone pageMatches lastPage

/-- The commit mark has been programmed. -/
def Ctl.commitDone (s : Ctl) : Ctl := if s.store.op = .commit then s.checkpointDone else s

def execCommitMarkDone (s : State) : Host.Outcome State Fault Refusal := s.run Ctl.commitDone

/-- RELOAD's last step (R171, step 6): every element UNCERTAIN with its last known entry (R24), SCAN_ALL raised, sampling restarted; then a checkpoint that was asked for
while the image was read. -/
def Ctl.reloadScan (s : Ctl) : Ctl :=
  let s1 : Ctl := { s with inv := { s.inv with elements := s.inv.elements.map fun r => { r with occ := .uncertain } } }
  let s2 := s1.raiseOrder { Order.powerUpScan with role := .reloadScan }
  (s2.resetClimate).startPending

/-- The RELOAD has ended: the skip counters are 0 whatever the image is (R153). -/
def Ctl.reloadOver (s : Ctl) : Ctl := (s.setStore { s.store with op := .none, reload := .none }).setVerify { s.verify with skips := ⟨0, 0⟩ }

/-! ## Every activity ended (R101, R116, R153, R166, R174) -/

/-- Restores that still claim their channel give the claim back (R158, R166). -/
def Ctl.claimsReset (s : Ctl) : Ctl :=
  let s1 := s.setRestore { s.restore with queue := [] }
  (s1.restore.running.filter fun r => r.state = .claiming).foldl (fun s r => s.restoreEnd r .cancelled (some .reset) false) s1

/-- Running restores end CANCELLED (R166). -/
def Ctl.restoresReset (s : Ctl) : Ctl :=
  s.restore.running.foldl (fun s r =>
    match s.restore? r.id with
    | some r => s.restoreEnd r .cancelled (some .reset) false
    | none => s) s

/-- The verify queue is emptied (R153). -/
def Ctl.verifyReset (s : Ctl) : Ctl :=
  s.verify.queue.foldl (fun s v =>
    match s.verifyOf v.set with
    | some v => s.verifyStop v .reset false
    | none => s) s

/-- The recovery ends CANCELLED (R174). -/
def Ctl.recoveryReset (s : Ctl) : Ctl :=
  match s.store.recovery with
  | some r => s.recoveryEnd r .cancelled 0 0 (some .reset) false
  | none => s

/-- Every activity ends, as at LIBRARY_RESET (R182): claims are given back, sessions aborted, restores, verify entries and the recovery ended. -/
def Ctl.activitiesReset (s : Ctl) : Ctl := ((((s.claimsReset).sessionsReset).restoresReset).verifyReset).recoveryReset

/-- The image area has been read for a RELOAD and judged (R170, R171). No session survives the load of a good image (R79), and no block is coded or expanded across it
(R101): DEDUCED (log 63), every activity begun since step 1 is ended first, as step 1 ends them. DEDUCED (log 37): where such a session has a block to end with, the load waits for its end, and the
image is read again then. -/
def Ctl.reloadRead (s : Ctl) (good : Bool) : Ctl :=
  match good, s.store.flash with
  | true, some i =>
    let s1 := s.activitiesReset
    if (s1.session .c0).isSome ∨ (s1.session .c1).isSome then s1.setStore { s1.store with op := .none, reload := .again }
    else ((s1.reloadOver.loadImage i).notify .panel (.reloadDone true)).reloadScan
  | _, _ => (s.reloadOver.notify .panel (.reloadDone false)).reloadScan

/-- The flash reports an error, or its 2 s timer expires: the checkpoint stops; an image that could not be read is not good (R168, R171). -/
def Ctl.flashFailed (s : Ctl) : Ctl :=
  match s.store.op with
  | .none => s
  | .read => s.reloadRead false
  | _ => s.checkpointFailed

def execFlashErrorReport (s : State) : Host.Outcome State Fault Refusal := s.act Ctl.flashFailed

def execFlashTimerExpiry (s : State) : Host.Outcome State Fault Refusal := s.act Ctl.flashFailed

def Ctl.imageRead (s : Ctl) (intact : Bool) : Ctl := if s.store.op = .read then s.reloadRead intact else s

def execImageReadDone (intact : Bool) (s : State) : Host.Outcome State Fault Refusal := s.act fun k => k.imageRead intact

end Sys2Proof.Machine
end

