-- ==== Sys2Proof/Machine/Resets.lean ====
section
/-! DEFINITION. Resets: LINK_RESET and the offline timer (R179), LIBRARY_RESET (R182), RELOAD (R171) and power-up, with every block's part of them (R24, R44, R45, R57, R80,
R101, R120, R138, R153, R166, R174, R183). -/

namespace Sys2Proof.Machine

/-! ## A link's reset (R179) -/

/-- The port's part: the request queue and the notice queue are emptied, and RESET_DONE joins. DESIGN CHOICE (log 94): a notice already being sent is sent to its end. -/
def Ctl.resetPort (s : Ctl) (l : Link) (cause : ResetCause) : Ctl :=
  (s.setLink l { s.link l with requests := [], notices := [], overflow := false }).notifyLink l (.resetDone cause)

/-- Every reservation that meets `p` becomes NONE. -/
def Ctl.dropReservations (s : Ctl) (p : Requester → Bool) : Ctl :=
  { s with inv := { s.inv with elements := s.inv.elements.map fun r => { r with reserved := r.reserved.filter fun q => !p q } } }

/-- A door's part (R14, R24): the request of the link is cancelled, with the notice to the links that were asked; another's keeps ASKING with the link's mark withdrawn. -/
def Ctl.doorLinkReset (s : Ctl) (l : Link) (m : Mag) : Ctl :=
  let d := s.door m
  if d.state = .asking then
    if d.requester = some (.link l) then (s.doorLocked m).notifyAsked d.asked (.door m .locked .reset)
    else s.setDoor m { d with granted := d.granted.set l false }
  else s

/-- The link is asked again once its reset is complete (R14); an OFFLINE link is asked when it comes back. -/
def Ctl.askAgain (s : Ctl) (l : Link) (m : Mag) : Ctl :=
  let d := s.door m
  if d.state = .asking ∧ d.granted.get l = false ∧ (s.link l).online = true then
    (s.setDoor m { d with asked := d.asked.set l true }).notifyLink l (.quiesceAsk m)
  else s

/-- An import or export move (R44). -/
def Order.ofMail (o : Order) : Bool :=
  match o.role with
  | .importMove _ => true
  | .exportMove _ => true
  | _ => false

/-- The queue's part (R44): the link's orders that are not RUNNING leave with no notice, and its held offers are struck; import and export moves stay. -/
def Ctl.queueLinkReset (s : Ctl) (l : Link) : Ctl := s.withdraw fun o => o.requester = some (.link l) && !o.ofMail

/-- The sessions' part (R116, R117). -/
def Ctl.sessionLinkReset (s : Ctl) (l : Link) (c : Chan) : Ctl :=
  match s.session c with
  | some x => if x.owner = l then s.abort c .reset false false else s
  | none => s

/-- The restores' part (R166). -/
def Ctl.restoreLinkReset (s : Ctl) (l : Link) : Ctl :=
  let s1 := s.setRestore { s.restore with queue := s.restore.queue.filter fun r => r.requester ≠ l }
  (s1.restore.running.filter fun r => r.requester = l).foldl (fun s r =>
    match s.restore? r.id with
    | some r => s.restoreEnd r .cancelled (some .reset) true
    | none => s) s1

/-- The recovery's part (R172). -/
def Ctl.recoveryLinkReset (s : Ctl) (l : Link) : Ctl :=
  match s.store.recovery with
  | some r => if r.requester = .link l then s.recoveryEnd r .cancelled 0 0 (some .reset) true else s
  | none => s

/-- The verify entries' part (R151). -/
def Ctl.verifyLinkReset (s : Ctl) (l : Link) : Ctl :=
  (s.verify.queue.filter fun v => (s.cat.set? v.set).map (·.owner) = some l).foldl (fun s v =>
    match s.verifyOf v.set with
    | some v => s.verifyStop v .reset true
    | none => s) s

/-- The reset of a link with its cause (R179). -/
def Ctl.linkReset (s : Ctl) (l : Link) (cause : ResetCause) : Ctl :=
  let s1 := (s.resetPort l cause).dropReservations fun q => q = .link l
  let s2 := ((s1.doorLinkReset l .l).doorLinkReset l .r).queueLinkReset l
  let s3 := (s2.sessionLinkReset l .c0).sessionLinkReset l .c1
  let s4 := ((s3.restoreLinkReset l).recoveryLinkReset l).verifyLinkReset l
  ((s4.askAgain l .l).askAgain l .r)

def Ctl.answerLinkReset (s : Ctl) (p : Requester) (tag n : Nat) : Ctl :=
  match linkOf n with
  | none => s.respond p tag .badArgument
  | some l => if p = .link l then (s.respond p tag .ok).linkReset l .linkReset else s.respond p tag .notOwner

def execLinkReset (p : Requester) (l : Nat) (s : State) : Host.Outcome State Fault Refusal :=
  s.act fun k => k.takeRequest p (.linkReset l) fun tag k => k.answerLinkReset p tag l

/-- The offline timer expires: the link is reset with cause OFFLINE, and stays OFFLINE (R178). -/
def Ctl.offlineExpired (s : Ctl) (l : Link) : Ctl :=
  if (s.link l).offlineTimer then (s.setLink l { s.link l with offlineTimer := false }).linkReset l .offline else s

def execOfflineTimerExpiry (l : Link) (s : State) : Host.Outcome State Fault Refusal := s.act fun k => k.offlineExpired l

/-! ## LIBRARY_RESET (R182) -/

/-- A link port's part: request queue, notice queue and overflow mark. DESIGN CHOICE (log 94): a notice already being sent is sent to its end. -/
def LinkPort.libraryReset (p : LinkPort) : LinkPort := { p with requests := [], notices := [], overflow := false }

/-- The panel port's part: only the response `keep`, the reset's own, stays. -/
def PanelPort.libraryReset (p : PanelPort) (keep : List Response) : PanelPort :=
  { p with requests := [], responses := keep, refusal := none, notices := [], overflow := false }

/-- The ports' part; RESET_DONE joins every notice queue. -/
def Ctl.portsReset (s : Ctl) (keep : List Response) (cause : ResetCause) : Ctl :=
  let s1 := (s.setLink .a (s.link .a).libraryReset)
  let s2 := (s1.setLink .b (s1.link .b).libraryReset)
  (s2.setPanel (s2.panel.libraryReset keep)).notifyAll (.resetDone cause)

/-- An order LIBRARY_RESET removes (R45): a MOVE, LOAD or UNLOAD; one of the queue stays when it is RUNNING or an import move. -/
def Order.resetRemoves (o : Order) : Bool :=
  match o.kind with
  | .audit => false
  | .scanAll => false
  | _ => true

def Order.isImport (o : Order) : Bool :=
  match o.role with
  | .importMove _ => true
  | _ => false

/-- The notices of a removed order: MOVE_FAILED for one that was in the queue, and MAIL_SLOT for an import or export (R24, R45). -/
def Ctl.removedNotice (s : Ctl) (queued : Bool) (o : Order) : Ctl :=
  (if queued then s.notifyOpt o.requester (.moveFailed o.id .reset) else s).mailEnd o (some .reset) none

/-- The queue's part (R45). -/
def Ctl.queueReset (s : Ctl) : Ctl :=
  let goes := s.picker.queue.filter fun o => o.resetRemoves && o.state ≠ .running && !o.isImport
  let struck := s.picker.held.filter Order.resetRemoves
  let s1 := s.setPicker { s.picker with queue := s.picker.queue.filter fun o => !(o.resetRemoves && o.state ≠ .running && !o.isImport),
                                        held := s.picker.held.filter fun o => !o.resetRemoves }
  let s2 := struck.foldl (fun s o => s.removedNotice false o) (goes.foldl (fun s o => s.removedNotice true o) s1)
  let s3 := s2.admitHeld
  if s3.picker.state = .faulted then s3.beginHoming else s3

/-- A door's part (R24): a request fails, an unlocked door is locked again; OPEN and AUDIT go on. -/
def Ctl.doorReset (s : Ctl) (m : Mag) : Ctl :=
  match (s.door m).state with
  | .asking => s.doorRefused m .reset
  | .unlocked => (s.doorLocked m).notifyAll (.door m .locked .reset)
  | _ => s

/-- A FAULTED transport is reset (R138); its answer comes as a report. -/
def Ctl.transportReset (s : Ctl) (c : Chan) : Ctl :=
  if (s.tr c).state = .faulted then s.setTr c { s.tr c with resetting := true } else s

/-- What LIBRARY_RESET and RELOAD share: the ports first, then every block (R171, step 1; R182). -/
def Ctl.resetAll (s : Ctl) (keep : List Response) (cause : ResetCause) : Ctl :=
  let s1 := ((s.portsReset keep cause).queueReset).activitiesReset
  let s2 := (((s1.dropReservations fun _ => true).doorReset .l).doorReset .r).mailCancelled .reset
  ((s2.resetClimate).transportReset .c0).transportReset .c1

/-- The response of a reset from the panel, the one that stays unread. -/
def accepted (tag : Nat) : List Response := [{ tag := tag, code := .accepted, result := .none }]

def Ctl.answerLibraryReset (s : Ctl) (p : Requester) (tag : Nat) : Ctl :=
  if s.inv.key = .lock then s.respond p tag .keyLocked
  else if s.store.reload ≠ .none then s.respond p tag .busy
  else s.resetAll (accepted tag) .libraryReset

def execLibraryReset (p : Requester) (s : State) : Host.Outcome State Fault Refusal :=
  s.act fun k => k.takeRequest p .libraryReset fun tag k => k.answerLibraryReset p tag

/-! ## RELOAD (R171) -/

/-- Step 1 has been done; the RELOAD goes on at the command's end where no aborted session is left (`Ctl.reloadGoesOn`). -/
def Ctl.beginReload (s : Ctl) : Ctl := s.setStore { s.store with reload := .ending }

def Ctl.answerReload (s : Ctl) (p : Requester) (tag : Nat) : Ctl :=
  if s.inv.key = .lock then s.respond p tag .keyLocked
  else if s.store.reload ≠ .none then s.respond p tag .busy
  else (s.resetAll (accepted tag) .reload).beginReload

def execReload (p : Requester) (s : State) : Host.Outcome State Fault Refusal :=
  s.act fun k => k.takeRequest p .reload fun tag k => k.answerReload p tag

/-! ## Power-up -/

/-- A transport's condition at power-up (R138). -/
def Transport.atPowerUp : TransportCondition → Transport
  | .noCartridge => .initial
  | .mounted tab => { Transport.initial with state := .mounted, present := true, tabSeen := some tab }
  | .fault holds => { Transport.initial with state := .faulted, present := holds }

/-- The controller at power-up, before the image is judged. -/
def Ctl.fresh (sense : Sense) (t0 t1 : TransportCondition) (flash : Option Image) : Ctl :=
  { Ctl.reset with
    inv := { Ctl.reset.inv with key := sense.key }
    trans := ⟨.atPowerUp t0, .atPowerUp t1⟩
    store := { Ctl.reset.store with flash := flash } }

/-- Only RESET_DONE(POWER_UP) stands in the notice queues when the store is not LOST (R183). -/
def Ctl.withoutLost (s : Ctl) : Ctl :=
  let q := [Notice.resetDone .powerUp]
  { s with links := ⟨{ s.links.a with notices := q }, { s.links.b with notices := q }⟩, panel := { s.panel with notices := q } }

/-- The store's part (R170): a good image is loaded whole; otherwise the store is LOST, with its protective values. -/
def Ctl.loadAtPowerUp (s : Ctl) : Ctl :=
  match s.store.flash with
  | some i => s.withoutLost.loadImage i
  | none => s

/-- A transport that answers with a fault enters FAULTED, of which every requester is told (R128). -/
def Ctl.faultAtPowerUp (s : Ctl) (c : Chan) : Ctl := if (s.tr c).state = .faulted then s.notifyAll (.transport c .faulted) else s

/-- Power-up or reset pin release: everything takes its value after reset; switches that read OPEN are forced openings (R24). -/
def Ctl.powerUp (s : Ctl) (sense : Sense) (t0 t1 : TransportCondition) (imageIntact : Bool) : Ctl :=
  let s1 := ((Ctl.fresh sense t0 t1 (if imageIntact then s.store.flash else none)).loadAtPowerUp).restartSampling .w1
  let s2 := (s1.faultAtPowerUp .c0).faultAtPowerUp .c1
  let s3 := if sense.doorL then s2.doorSwitchOpened .l else s2
  let s4 := if sense.doorR then s3.doorSwitchOpened .r else s3
  if sense.mail then s4.mailSwitchOpened else s4

def execPowerUp (sense : Sense) (t0 t1 : TransportCondition) (imageIntact : Bool) (s : State) : Host.Outcome State Fault Refusal :=
  s.run fun k => k.powerUp sense t0 t1 imageIntact

end Sys2Proof.Machine
end

