-- ==== Sys2Proof/Machine/SessionCommands.lean ====
section
/-! DEFINITION. The commands of chapter 6: OPEN_SET, SYNC, CLOSE_SET, ABORT_SET, the data frames of a session, the results of coder and expander, and the
steps a channel takes of itself. -/

namespace Sys2Proof.Machine

/-! ## OPEN_SET (R109) -/

/-- A channel argument: 0, 1, or 2 for ANY. -/
def chanArg (n : Nat) : Option (Option Chan) :=
  match n with
  | 0 => some (some .c0)
  | 1 => some (some .c1)
  | 2 => some none
  | _ => none

/-- A target: a label, or `none` for POOL. -/
def targetOf : TargetArg → Option (Option Label)
  | .label l => some (some l)
  | .pool => some none
  | .other _ => none

/-- A channel counts as idle for OPEN_SET (R102). -/
def Ctl.openIdle (s : Ctl) (c : Chan) : Bool := s.chanIdle c || s.verifyTakable c

/-- A channel ANY may choose. -/
def Ctl.openPasses (s : Ctl) (p : Requester) (c : Chan) : Bool :=
  s.openIdle c && (s.tr c).state ≠ .faulted && !s.reservedByOther (some p) (.transport c)

/-- The channel of an OPEN_SET, or the answer that refuses it. -/
def Ctl.openChannel (s : Ctl) (p : Requester) (ch : Option Chan) (target : Option Label) : Except Code Chan :=
  match ch with
  | some c =>
    if s.openIdle c = false ∨ (s.tr c).state = .faulted then .error .channelBusy
    else if s.reservedByOther (some p) (.transport c) then .error .reserved
    else .ok c
  | none =>
    match target.bind fun l => (s.transportOf l).filter fun d => (s.tr d).state = .mounted with
    | some d => if s.openPasses p d then .ok d else .error .channelBusy
    | none =>
      match [Chan.c0, Chan.c1].find? (s.openPasses p) with
      | some c => .ok c
      | none => .error .channelBusy

/-- A cartridge's state takes a session (R60, R109). -/
def Cart.takesSession (k : Cart) : Bool :=
  classOf k.label ≠ .unsupported
    && (k.state = .blank || k.state = .scratch || (k.state = .opened && !k.early && decide (k.sets.length < Config.setListRoom)))

/-- The checks of a named target for the channel chosen, in their order. -/
def Ctl.targetAnswer (s : Ctl) (p : Requester) (c : Chan) (l : Label) : Code :=
  match s.cat.cart? l with
  | none => .notFound
  | some k =>
    match s.findLabel l with
    | none => .wrongState
    | some e =>
      if k.loc = none ∨ k.takesSession = false then .wrongState
      else if e = .gripper ∨ (e = .transport c.other) ∨ (e = .transport c ∧ (s.tr c).state ≠ .mounted) ∨ s.usedByActivity l = true then .inUse
      else if s.entryProtected (s.elem e).entry then .isProtected
      else if ((s.elem e).entry.map (·.tab)) = some .set then .tabProtected
      else if s.reservedByOther (some p) e then .reserved
      else if s.doorBusy e then .doorBusy
      else .accepted

/-- OPEN_SET's answer after its arguments have been judged: the channel, or the refusal. -/
def Ctl.openAnswer (s : Ctl) (p : Requester) (ch : Option Chan) (target : Option Label) : Except Code Chan :=
  match s.openChannel p ch target with
  | .error e => .error e
  | .ok c =>
    let t := match target with
      | some l => s.targetAnswer p c l
      | none => .accepted
    if t ≠ .accepted then .error t
    else if Config.setRoom ≤ s.cat.sets.length then .error .catalogFull
    else .ok c

/-- A session in OPENING. -/
def Session.fresh (id : Nat) (owner : Link) (target : Option Label) (hint dict ret today : Nat) (yield : Bool) : Session :=
  { setId := id, owner := owner, target := target, hint := hint, dict := dict, retention := ret, today := today, yield := yield, state := .opening,
    chosen := target, passed := [], syncPending := false, closePending := false, kept := none, unloaded := false, needTimer := false, banksClosed := 0,
    endsBefore := 0, bytesBefore := 0, endedOnRecord := false, syncUpTo := 0, contWritten := false, abort := none }

/-- The set record of an accepted OPEN_SET (R63). -/
def Ctl.createSet (s : Ctl) (owner : Link) (dict ret today : Nat) : Ctl :=
  let id := s.cat.newSetId
  s.putCat { s.cat with sets := insertSet (SetRec.fresh id owner today ret dict (s.dicts.gen dict)) s.cat.sets, nextSetId := wrapNext Config.lastSetId id }

/-- The session takes its channel: at once, or once the verify on it has paused (R109, R150). -/
def Ctl.beginSession (s : Ctl) (c : Chan) (x : Session) : Ctl :=
  if (s.chan c).mode = .verify then
    (s.setChan c { s.chan c with session := some x, claim := some .session }).verifyAskPause c
  else (s.setChan c { s.chan c with session := some x }).sessionStart c

def Ctl.answerOpenSet (s : Ctl) (p : Requester) (tag ch : Nat) (target : TargetArg) (hint dict ret today yield : Nat) : Ctl :=
  match p, chanArg ch, targetOf target, yesOf yield with
  | .link owner, some ch, some t, some y =>
    if 3 < dict then s.respond p tag .badArgument
    else
      match s.openAnswer p ch t with
      | .error e => s.respond p tag e
      | .ok c =>
        let r := min ret Config.maxRetention
        let id := s.cat.newSetId
        (((s.respond p tag .accepted (.setId id)).createSet owner dict r today)).beginSession c (Session.fresh id owner t hint dict r today y)
  | _, _, _, _ => s.respond p tag .badArgument

def execOpenSet (p : Requester) (ch : Nat) (target : TargetArg) (hint dict ret today yield : Nat) (s : State) : Host.Outcome State Fault Refusal :=
  s.act fun k => k.takeRequest p (.openSet ch target hint dict ret today yield) fun tag k => k.answerOpenSet p tag ch target hint dict ret today yield

/-! ## SYNC, CLOSE_SET and ABORT_SET (R114 to R116) -/

/-- The channel that holds a set's session. -/
def Ctl.sessionOf (s : Ctl) (set : Nat) : Option (Chan × Session) :=
  [Chan.c0, Chan.c1].findSome? fun c => match s.session c with
    | some x => if x.setId = set then some (c, x) else none
    | none => none

/-- What SYNC, CLOSE_SET and ABORT_SET share: the set exists, the requester owns it, and it has a session. -/
def Ctl.ownSession (s : Ctl) (p : Requester) (set : Nat) : Except Code (Chan × Session) :=
  match s.cat.set? set with
  | none => .error .notFound
  | some r =>
    if p ≠ .link r.owner then .error .notOwner
    else
      match s.sessionOf set with
      | some cx => .ok cx
      | none => .error .wrongState

/-- The session has received nothing yet (R114). -/
def Ctl.nothingReceived (s : Ctl) (x : Session) : Bool :=
  x.state = .opening || x.state = .loading || x.state = .appendingCheck || (x.state = .needCartridge && !s.setWriting x)

def Session.ending (x : Session) : Bool := x.state = .closing || x.state = .aborting

/-- A SYNC becomes pending: it waits for every bank closed so far, and for the FILLING one (R114). -/
def Ctl.beginSync (s : Ctl) (c : Chan) : Ctl :=
  (s.modSession c fun x => { x with syncPending := true, syncUpTo := x.banksClosed + (if (s.chan c).filling.isSome then 1 else 0) }).judgeChannel c

def Ctl.answerSync (s : Ctl) (p : Requester) (tag set : Nat) : Ctl :=
  match s.ownSession p set with
  | .error e => s.respond p tag e
  | .ok (c, x) =>
    if x.ending then s.respond p tag .wrongState
    else if s.nothingReceived x then s.respond p tag .ok
    else if x.syncPending then s.respond p tag .busy
    else (s.respond p tag .accepted).beginSync c

def execSync (p : Requester) (set : Nat) (s : State) : Host.Outcome State Fault Refusal :=
  s.act fun k => k.takeRequest p (.sync set) fun tag k => k.answerSync p tag set

/-- A close becomes pending: no more credits, the FILLING bank closed, and a STREAMING session CLOSING (R115). -/
def Ctl.beginClose (s : Ctl) (c : Chan) : Ctl :=
  ((((s.dropCredits c).modSession c fun x => { x with closePending := true }).closeFilling c).modSession c fun x =>
    { x with state := if x.state = .streaming then .closing else x.state }).judgeChannel c

def Ctl.answerCloseSet (s : Ctl) (p : Requester) (tag set : Nat) : Ctl :=
  match s.ownSession p set with
  | .error e => s.respond p tag e
  | .ok (c, x) =>
    if x.ending ∨ x.closePending = true ∨ s.setWriting x = false then s.respond p tag .wrongState
    else (s.respond p tag .accepted).beginClose c

def execCloseSet (p : Requester) (set : Nat) (s : State) : Host.Outcome State Fault Refusal :=
  s.act fun k => k.takeRequest p (.closeSet set) fun tag k => k.answerCloseSet p tag set

def Ctl.answerAbortSet (s : Ctl) (p : Requester) (tag set : Nat) : Ctl :=
  match s.ownSession p set with
  | .error e => s.respond p tag e
  | .ok (c, x) => if x.state = .aborting then s.respond p tag .wrongState else (s.respond p tag .accepted).abort c .cancelled false false

def execAbortSet (p : Requester) (set : Nat) (s : State) : Host.Outcome State Fault Refusal :=
  s.act fun k => k.takeRequest p (.abortSet set) fun tag k => k.answerAbortSet p tag set

/-! ## Data frames (R104, R117, R175) -/

/-- The bank that takes a session's next byte: the FILLING one, or else an EMPTY one, bank 0 first; while the session is suspended only its kept bank. -/
def Channel.intake (ch : Channel) (kept : Option BankIx) : Option BankIx :=
  ch.filling.orElse fun _ => bankIxs.find? fun i => (ch.bank i).state = .empty && (kept = none || kept = some i)

/-- Bytes join a bank, with the offset of the last one when they end a record. -/
def Bank.take (b : Bank) (bytes : List Byte) (eor : Bool) : Bank :=
  let all := b.taken ++ bytes
  { state := .filling, bytes := all, ends := if eor then b.takenEnds ++ [all.length] else b.takenEnds, stamp := none }

/-- The bank is full: by its bytes, or by its record ends (R105). -/
def Bank.full (b : Bank) : Bool := decide (Config.bankBytes ≤ b.bytes.length) || decide (Config.bankEnds ≤ b.ends.length)

def Ctl.closeIfFull (s : Ctl) (c : Chan) (i : BankIx) : Ctl := if ((s.chan c).bank i).full then s.closeBank c i else s

/-- A frame's bytes are placed, split over the two banks where the first one fills (R104, R105). -/
def Ctl.placeData (s : Ctl) (c : Chan) (kept : Option BankIx) (bytes : List Byte) (eor : Bool) : Ctl :=
  match (s.chan c).intake kept with
  | none => s
  | some i =>
    let b := (s.chan c).bank i
    let room := Config.bankBytes - b.taken.length
    if bytes.length ≤ room then (s.setBank c i (b.take bytes eor)).closeIfFull c i
    else
      let s1 := (s.setBank c i (b.take (bytes.take room) false)).closeBank c i
      let j := i.other
      if ((s1.chan c).bank j).state = .empty then
        (s1.setBank c j (((s1.chan c).bank j).take (bytes.drop room) eor)).closeIfFull c j
      else s1

/-- A data frame for a channel (R104). A session whose close is pending takes no more of them (R115). -/
def Ctl.dataFrame (s : Ctl) (l : Link) (c : Chan) (eor : Bool) (bytes : List Byte) : Ctl :=
  match s.session c with
  | none => s
  | some x =>
    if x.owner ≠ l then s
    else if x.ending ∨ x.closePending = true then s
    else if (s.chan c).credits = 0 then s.abort c .overrun false false
    else
      let s1 := s.setChan c { s.chan c with credits := (s.chan c).credits - 1 }
      (s1.placeData c (if x.state = .suspended then x.kept else none) bytes eor).judgeChannel c

/-- A damaged frame from a link: every session of the link with write credit outstanding is aborted (R117, R175). -/
def Ctl.linkDamaged (s : Ctl) (l : Link) : Ctl :=
  [Chan.c0, Chan.c1].foldl (fun s c =>
    match s.session c with
    | some x => if x.owner = l ∧ 0 < (s.chan c).credits then s.abort c .linkDamage false false else s
    | none => s) s

/-- A DATA_OUT frame as it arrives on a link (R175). An OFFLINE link receives no frame. -/
def Ctl.dataOut (s : Ctl) (l : Link) (ch flags : Nat) (payload : List Byte) : Ctl :=
  if (s.link l).online = false then s
  else if payload.length = 0 ∨ Config.frameBytes < payload.length then s.linkDamaged l
  else
    match ch with
    | 0 => s.dataFrame l .c0 (flags % 2 = 1) payload
    | 1 => s.dataFrame l .c1 (flags % 2 = 1) payload
    | _ => s

def execDataOut (l : Link) (ch flags : Nat) (payload : List Byte) (s : State) : Host.Outcome State Fault Refusal :=
  s.act fun k => k.dataOut l ch flags payload

/-- A damaged frame; one from the panel has no further effect (R175). -/
def Ctl.frameDamaged (s : Ctl) (p : Requester) : Ctl :=
  match p with
  | .link l => if (s.link l).online then s.linkDamaged l else s
  | .panel => s

def execDamagedFrame (p : Requester) (s : State) : Host.Outcome State Fault Refusal := s.act fun k => k.frameDamaged p

/-! ## Coder, expander and the channel's own steps -/

/-- The coder hands its result on (R93, R107). -/
def Ctl.coderReport (s : Ctl) (c : Chan) : Ctl := (s.coderResult c).refuseSuspension c

def execCoderResult (c : Chan) (s : State) : Host.Outcome State Fault Refusal := s.act fun k => k.coderReport c

/-- The expander reports to the verify or the restore of its channel (R97). -/
def Ctl.expanderDone (s : Ctl) (c : Chan) : Ctl :=
  match (s.chan c).expander with
  | .idle => s
  | .expanding b d => if (s.chan c).mode = .verify then s.verifyExpanded c b d else s.restoreExpanded c b d

def execExpanderReport (c : Chan) (s : State) : Host.Outcome State Fault Refusal := s.act fun k => k.expanderDone c

def execBankCodingStart (c : Chan) (s : State) : Host.Outcome State Fault Refusal := s.run fun k => k.startCoding c

def execCreditGrant (c : Chan) (s : State) : Host.Outcome State Fault Refusal := s.run fun k => k.grant c

def execSyncComplete (c : Chan) (s : State) : Host.Outcome State Fault Refusal := s.run fun k => k.syncDone c

/-- The summary block of a close, or of an abort, is written as soon as its conditions hold (R115, R116). -/
def execSummaryBlockWrite (c : Chan) (s : State) : Host.Outcome State Fault Refusal := s.act fun k => (k.closeProceed c).abortProceed c

def execSuspensionComplete (c : Chan) (s : State) : Host.Outcome State Fault Refusal := s.act fun k => k.suspendTest c

/-- The 60 s timer of NEED_CARTRIDGE expires and starts again: the choice is made again (R113). -/
def Ctl.needExpired (s : Ctl) (c : Chan) : Ctl :=
  match s.session c with
  | some x => if x.needTimer then s.rechoose c else s
  | none => s

def execNeedCartridgeTimerExpiry (c : Chan) (s : State) : Host.Outcome State Fault Refusal := s.run fun k => k.needExpired c

end Sys2Proof.Machine
end

