-- ==== Sys2Proof/Machine/TransportReports.lean ====
section
/-! DEFINITION. The reports of the transports (R126 to R129, R138): what a report leaves at the port, and the activity that each answered order belongs to. -/

namespace Sys2Proof.Machine

/-! ## Which report answers which order (R126, R127) -/

def TOrderKind.isThread : TOrderKind → Bool
  | .thread => true
  | _ => false

def TOrderKind.isEject : TOrderKind → Bool
  | .eject => true
  | _ => false

def TOrderKind.isLocate : TOrderKind → Bool
  | .locate _ => true
  | _ => false

def TOrderKind.isRead : TOrderKind → Bool
  | .read => true
  | _ => false

def TOrderKind.isWrite : TOrderKind → Bool
  | .write _ => true
  | _ => false

/-- The outstanding order, when the report answers its kind; any other report answers no order and is discarded. -/
def Transport.answers (t : Transport) (k : TOrderKind → Bool) : Option TOrder := t.order.filter fun o => k o.kind

/-! ## THREADED and EJECTED (R126) -/

/-- The tab reported is written into the entry of the cartridge in the transport (R2). -/
def Ctl.writeTab (s : Ctl) (c : Chan) (t : TabReport) : Ctl :=
  let e := Element.transport c
  (s.setElem e { s.elem e with entry := (s.elem e).entry.map fun x => { x with tab := t.tab } }).setTr c { s.tr c with tabSeen := some t }

/-- The tab already recorded. -/
def Ctl.tabIn (s : Ctl) (c : Chan) : Tab := ((s.entryIn c).map (·.tab)).getD .unknown

/-- The activity that needed the load is told of its THREADED. -/
def Ctl.threadedFor (s : Ctl) (c : Chan) (k : Task) (tab : Tab) : Ctl :=
  match k with
  | .sThread => s.sessionThreaded c tab
  | .vThread => s.verifyThreaded c
  | .rThread => s.restoreThreaded c
  | .cThread => s.recoveryThreaded c
  | _ => s

/-- THREADED: MOUNTED at position 0 with the tab reported; for a THREAD in MOUNTED the tab already recorded, and the position unchanged (R126, R129). DEDUCED (log 71): where the cartridge has
been fetched meanwhile, the transport stays EMPTY, no tab is written, and the activity is told the tab recorded. -/
def Ctl.threadedReport (s : Ctl) (c : Chan) (t : TabReport) : Ctl :=
  match (s.tr c).answers TOrderKind.isThread with
  | some o =>
    if (s.tr c).state = .threading then
      ((((s.writeTab c t).transportReported c .mounted 0).threadedFor c o.task t.tab).rejudgeOn c).finishDrains
    else (((s.transportReported c (s.tr c).state (s.tr c).pos).threadedFor c o.task (s.tabIn c)).rejudgeOn c).finishDrains
  | none => s

def execThreaded (c : Chan) (tab : TabReport) (s : State) : Host.Outcome State Fault Refusal := s.act fun k => k.threadedReport c tab

/-- EJECTED: the transport is EJECTED, or stays EMPTY, and the UNLOADs waiting for it leave EJECT_WAIT (R30, R126). -/
def Ctl.ejectedReport (s : Ctl) (c : Chan) : Ctl :=
  match (s.tr c).answers TOrderKind.isEject with
  | some _ =>
    let st : TransportState := if (s.tr c).state = .empty then .empty else .ejected
    (((s.transportReported c st (s.tr c).pos).ejectReady c).rejudgeOn c).finishDrains
  | none => s

def execEjected (c : Chan) (s : State) : Host.Outcome State Fault Refusal := s.act fun k => k.ejectedReport c

/-! ## POSITIONED (R121, R127) -/

/-- The transport stands where the data block in hand belongs: it is sent, orders a span, or is refused under the law of writing (R130, R131). -/
def Ctl.writeInHand (s : Ctl) (c : Chan) (i : BankIx) : Ctl :=
  match (s.chan c).buf, s.session c with
  | .held b, some x =>
    match s.sessionSet x, s.cartIn c with
    | some r, some k =>
      if s.mayWrite k (s.entryIn c) false then if k.mustSpan b.cost then s.orderSpan c i else s.writeBlock c (dataBlock k r b) (.sDataWrite i)
      else ((s.freeBlock c i).abort c .writeFault true false).abortProceed c
    | _, _ => ((s.freeBlock c i).abort c .writeFault true false).abortProceed c
  | _, _ => s

/-- A summary block that cannot be written (R115, R116, R130). -/
def Ctl.summaryRefused (s : Ctl) (c : Chan) (f : SummaryFlag) : Ctl :=
  match f with
  | .truncated => s.finishAbort c false
  | _ => (s.abort c .writeFault true false).abortProceed c

/-- The transport stands where the summary block belongs. An abort taken meanwhile goes its own way. -/
def Ctl.writeSummary (s : Ctl) (c : Chan) (f : SummaryFlag) : Ctl :=
  match s.session c with
  | some x =>
    if x.state = .aborting ∧ f ≠ .truncated then s.abortProceed c
    else
      match s.sessionSet x, s.cartIn c with
      | some r, some k =>
        if s.mayWrite k (s.entryIn c) false then s.writeBlock c (summaryBlock k r f) (.sSumWrite f) else s.summaryRefused c f
      | _, _ => s.summaryRefused c f
  | none => s

/-- A session's read of a check, unless the session is being aborted. -/
def Ctl.sessionReads (s : Ctl) (c : Chan) (k : Task) : Ctl :=
  match s.session c with
  | some x => if x.state = .aborting then s.abortProceed c else s.readBlock c k
  | none => s

def Ctl.positionedFor (s : Ctl) (c : Chan) (k : Task) : Ctl :=
  match k with
  | .sVolLocate => s.sessionReads c .sVolRead
  | .sEndLocate => s.sessionReads c .sEndRead
  | .sVolWriteLocate => s.sendVolume c
  | .sDataLocate i => (s.writeInHand c i).refuseSuspension c
  | .sSumLocate f => s.writeSummary c f
  | .vVolLocate => s.verifyPositioned c .vVolRead
  | .vLocate => s.verifyPositioned c .vRead
  | .rVolLocate => s.readBlock c .rVolRead
  | .rLocate => s.readBlock c .rRead
  | .cVolLocate => s.readBlock c .cVolRead
  | .cLocate => s.readBlock c .cRead
  | _ => s

/-- A LOCATE is answered: the transport stands at `pos` (R127). -/
def Ctl.located (s : Ctl) (c : Chan) (o : TOrder) (pos : Nat) : Ctl := ((s.transportReported c (s.tr c).state.returned pos).positionedFor c o.task).finishDrains

/-- POSITIONED: the position named. -/
def Ctl.positionedReport (s : Ctl) (c : Chan) : Ctl :=
  match (s.tr c).order with
  | some o =>
    match o.kind with
    | .locate p => s.located c o p
    | _ => s
  | none => s

def execPositioned (c : Chan) (s : State) : Host.Outcome State Fault Refusal := s.act fun k => k.positionedReport c

/-! ## Reads (R124, R127) -/

def Ctl.readFor (s : Ctl) (c : Chan) (k : Task) (r : ReadResult) : Ctl :=
  match k with
  | .sVolRead => s.sessionVolRead c r
  | .sEndRead => s.sessionEndRead c r
  | .vVolRead => s.verifyVolRead c r
  | .vRead => s.verifyRead c r
  | .rVolRead => s.restoreVolRead c r
  | .rRead => s.restoreRead c r
  | .cVolRead => s.recoveryVolRead c r
  | .cRead => s.recoveryRead c r
  | _ => s

/-- A READ_BLOCK is answered with a result, at position `pos`. -/
def Ctl.readAnswered (s : Ctl) (c : Chan) (o : TOrder) (pos : Nat) (r : ReadResult) : Ctl :=
  ((s.transportReported c (s.tr c).state.returned pos).readFor c o.task r).finishDrains

def Ctl.blockReadReport (s : Ctl) (c : Chan) (bytes : List Byte) : Ctl :=
  match (s.tr c).answers TOrderKind.isRead with
  | some o => s.readAnswered c o ((s.tr c).pos + 1) (checkBlock bytes)
  | none => s

def execBlockRead (c : Chan) (bytes : List Byte) (s : State) : Host.Outcome State Fault Refusal := s.act fun k => k.blockReadReport c bytes

def Ctl.blockUnreadableReport (s : Ctl) (c : Chan) : Ctl :=
  match (s.tr c).answers TOrderKind.isRead with
  | some o => s.readAnswered c o ((s.tr c).pos + 1) .unreadable
  | none => s

def execBlockUnreadable (c : Chan) (s : State) : Host.Outcome State Fault Refusal := s.act fun k => k.blockUnreadableReport c

/-- END_OF_DATA: for a READ_BLOCK no block, the position unchanged; for a LOCATE the recorded end, from where the activity goes on. -/
def Ctl.endOfDataReport (s : Ctl) (c : Chan) (recorded : Nat) : Ctl :=
  match (s.tr c).order with
  | some o =>
    match o.kind with
    | .read => s.readAnswered c o (s.tr c).pos .noBlock
    | .locate _ => s.located c o recorded
    | _ => s
  | none => s

def execEndOfData (c : Chan) (recordedEnd : Nat) (s : State) : Host.Outcome State Fault Refusal := s.act fun k => k.endOfDataReport c recordedEnd

/-! ## Writes (R127, R132, R133) -/

def Ctl.writtenFor (s : Ctl) (c : Chan) (k : Task) : Ctl :=
  match k with
  | .sVolWrite => s.volumeWritten c
  | .sDataWrite i => s.dataWritten c i
  | .sSumWrite f => s.summaryWritten c f
  | _ => s

def Ctl.blockWrittenReport (s : Ctl) (c : Chan) : Ctl :=
  match (s.tr c).answers TOrderKind.isWrite with
  | some o => ((s.transportReported c (s.tr c).state.returned ((s.tr c).pos + 1)).writtenFor c o.task).finishDrains
  | none => s

def execBlockWritten (c : Chan) (s : State) : Host.Outcome State Fault Refusal := s.act fun k => k.blockWrittenReport c

/-- END_OF_MEDIA refuses a data block (R133); that of an activity which has ended only leaves the transport as R127 states (R138). -/
def Ctl.endOfMediaReport (s : Ctl) (c : Chan) : Ctl :=
  match (s.tr c).answers TOrderKind.isWrite with
  | some o =>
    match o.task with
    | .sDataWrite i => (((s.transportReported c (s.tr c).state.returned (s.tr c).pos).endOfMedia c i).refuseSuspension c).finishDrains
    | .dropped => (s.transportReported c (s.tr c).state.returned (s.tr c).pos).finishDrains
    | _ => s
  | none => s

def execEndOfMedia (c : Chan) (s : State) : Host.Outcome State Fault Refusal := s.act fun k => k.endOfMediaReport c

/-! ## Faults (R128, R129) -/

/-- The transport enters FAULTED, its pending EJECT and the UNLOADs waiting for an eject fail (R30, R126, R128). -/
def Ctl.hardwareFault (s : Ctl) (c : Chan) : Ctl :=
  let s1 := s.transportFaulted c
  (s1.setTr c { s1.tr c with pendingEject := false }).ejectFailed c

/-- The outstanding order has failed (R128): a MEDIA_FAULT leaves the transport MOUNTED, or EMPTY after a THREAD. -/
def Ctl.orderFault (s : Ctl) (c : Chan) (o : TOrder) (k : FaultKind) : Ctl :=
  match k with
  | .media =>
    let st : TransportState := if o.kind.isThread then .empty else (s.tr c).state.returned
    ((((s.markSuspect c).transportReported c st (s.tr c).pos).faultFor c o.task true).rejudgeOn c).finishDrains
  | .hardware => (((s.hardwareFault c).faultFor c o.task false).rejudgeOn c).finishDrains

/-- A FAULT answers the outstanding order. -/
def Ctl.faultReport (s : Ctl) (c : Chan) (k : FaultKind) : Ctl :=
  match (s.tr c).order with
  | some o => s.orderFault c o k
  | none => s

def execTransportFault (c : Chan) (k : FaultKind) (s : State) : Host.Outcome State Fault Refusal := s.act fun x => x.faultReport c k

/-- The 600 s timer expires: as a FAULT of kind HARDWARE_FAULT of the outstanding order (R128). -/
def Ctl.transportTimeout (s : Ctl) (c : Chan) : Ctl :=
  match (s.tr c).order with
  | some o => s.orderFault c o .hardware
  | none => s

def execTransportOrderTimerExpiry (c : Chan) (s : State) : Host.Outcome State Fault Refusal := s.act fun k => k.transportTimeout c

/-! ## The reset of a FAULTED transport (R138) -/

def Ctl.resetDone (s : Ctl) (c : Chan) (r : TransportCondition) : Ctl :=
  if (s.tr c).resetting then
    let t := { s.tr c with resetting := false }
    match r with
    | .noCartridge =>
      (s.setTr c { t with state := .empty, present := false, tabSeen := none }).notifyAll (.transport c .empty)
    | .mounted tab => ((s.setTr c { t with state := .mounted, pos := 0, present := true }).writeTab c tab).notifyAll (.transport c .mounted)
    | .fault holds => s.setTr c { t with present := holds }
  else s

def execTransportResetDone (c : Chan) (r : TransportCondition) (s : State) : Host.Outcome State Fault Refusal := s.run fun k => k.resetDone c r

end Sys2Proof.Machine
end

