-- ==== Sys2Proof/Machine/VerifyRequests.lean ====
section
/-! DEFINITION. The requests of chapter 8 and the start of a verify entry: VERIFY_SET, CANCEL_VERIFY, SET_VERIFY_POLICY and READ_VERIFY. -/

namespace Sys2Proof.Machine

/-! ## VERIFY_SET and CANCEL_VERIFY (R142, R151) -/

/-- VERIFY_SET's table (R142) for a set that exists. -/
def Ctl.verifyAnswer (s : Ctl) (p : Requester) (r : SetRec) : Code :=
  if ¬(p = .panel ∨ p = .link r.owner) then .notOwner
  else if r.state = .opening ∨ r.state = .writing then .wrongState
  else if r.state = .expired then .setExpired
  else if (s.verifyOf r.id).isSome then .busy
  else if Config.verifyRoom ≤ s.verify.queue.length then .queueFull
  else .accepted

/-- A requested entry, with the owner's policy (R142). -/
def VerifyEntry.asked (set : Nat) (p : Requester) (q : Policy) : VerifyEntry :=
  { set := set, origin := .request, requestedBy := some p, mode := q.mode, pattern := q.pattern, passes := q.passes, passesLeft := q.passes,
    state := .waiting, pauseAsked := false, resume := none, bad := 0, badList := [], badMore := false, runRec := none, expected := 0, extent := 0,
    lastFault := none, done := 0, chan := none, waits := false }

def Ctl.pushVerify (s : Ctl) (v : VerifyEntry) : Ctl := s.setVerify { s.verify with queue := s.verify.queue ++ [v] }

def Ctl.answerVerifySet (s : Ctl) (p : Requester) (tag set : Nat) : Ctl :=
  match s.cat.set? set with
  | none => s.respond p tag .notFound
  | some r =>
    let code := s.verifyAnswer p r
    let s1 := s.respond p tag code
    if code = .accepted then s1.pushVerify (VerifyEntry.asked set p (s.verify.policies.get r.owner)) else s1

def execVerifySet (p : Requester) (set : Nat) (s : State) : Host.Outcome State Fault Refusal :=
  s.run fun k => k.takeRequest p (.verifySet set) fun tag k => k.answerVerifySet p tag set

def Ctl.answerCancelVerify (s : Ctl) (p : Requester) (tag set : Nat) : Ctl :=
  match s.cat.set? set, s.verifyOf set with
  | some r, some v => if p ≠ .link r.owner then s.respond p tag .notOwner else (s.respond p tag .ok).verifyStop v .cancelled true
  | _, _ => s.respond p tag .notFound

def execCancelVerify (p : Requester) (set : Nat) (s : State) : Host.Outcome State Fault Refusal :=
  s.act fun k => k.takeRequest p (.cancelVerify set) fun tag k => k.answerCancelVerify p tag set

/-! ## SET_VERIFY_POLICY (R140) -/

def triggerOf (n : Nat) : Option Trigger :=
  match n with
  | 0 => some .onClose
  | 1 => some .manual
  | _ => none

def modeOf (n : Nat) : Option VerifyMode :=
  match n with
  | 0 => some .quick
  | 1 => some .full
  | _ => none

def overlapOf (n : Nat) : Option Overlap :=
  match n with
  | 0 => some .queue
  | 1 => some .drop
  | _ => none

/-- A pattern as stored: N and T are clamped first, then K to 1 to T − 1. -/
def patternOf : PatternArg → Option Pattern
  | .all => some .all
  | .everyNth n => some (.everyNth (clampNat 2 64 n))
  | .run k t => some (.run (clampNat 1 (clampNat 2 64 t - 1) k) (clampNat 2 64 t))
  | .other _ => none

/-- The policy a SET_VERIFY_POLICY stores: `none` where a named value is not one of its values. -/
def policyOf (trig skip passes mode : Nat) (pat : PatternArg) (overlap : Nat) : Option Policy :=
  match triggerOf trig, modeOf mode, patternOf pat, overlapOf overlap with
  | some t, some m, some p, some o =>
    some { trigger := t, skip := clampNat 1 16 skip, passes := clampNat 1 4 passes, mode := m, pattern := p, overlap := o }
  | _, _, _, _ => none

/-- The entry started for a set of the link runs its current pass to its end, and no further one (R140, step 4). -/
def Ctl.lastPass (s : Ctl) (l : Link) (v : VerifyEntry) : VerifyEntry :=
  if v.state ≠ .waiting ∧ (s.cat.set? v.set).map (·.owner) = some l then { v with passesLeft := 1 } else v

/-- R140's four effects, in their order. -/
def Ctl.setPolicy (s : Ctl) (l : Link) (q : Policy) : Ctl :=
  let s1 := (s.setVerify { s.verify with policies := s.verify.policies.set l q, skips := s.verify.skips.set l 0 }).changed
  s1.setVerify { s1.verify with queue := s1.verify.queue.map (s1.lastPass l) }

def Ctl.answerSetPolicy (s : Ctl) (p : Requester) (tag : Nat) (q : Option Policy) : Ctl :=
  match p, q with
  | .link l, some q => (s.respond p tag .ok (.policy q)).setPolicy l q
  | _, _ => s.respond p tag .badArgument

def execSetVerifyPolicy (p : Requester) (trig skip passes mode : Nat) (pat : PatternArg) (overlap : Nat) (s : State) : Host.Outcome State Fault Refusal :=
  s.run fun k => k.takeRequest p (.setVerifyPolicy trig skip passes mode pat overlap) fun tag k =>
    k.answerSetPolicy p tag (policyOf trig skip passes mode pat overlap)

/-! ## READ_VERIFY (R152) -/

def VerifyEntry.shown (v : VerifyEntry) : ShownVerify :=
  { set := v.set, origin := v.origin, requestedBy := v.requestedBy, mode := v.mode, pattern := v.pattern, passes := v.passes, passesLeft := v.passesLeft,
    state := v.state, resume := v.resume,
    working := if v.state = .running then
        some { bad := v.bad, badList := v.badList, more := v.badMore, runRec := v.runRec, expected := v.expected, extent := v.extent, fault := v.lastFault }
      else none }

def Ctl.answerReadVerify (s : Ctl) (p : Requester) (tag : Nat) : Ctl :=
  s.respond p tag .ok (.verify s.verify.policies s.verify.skips (s.verify.queue.map VerifyEntry.shown))

def execReadVerify (p : Requester) (s : State) : Host.Outcome State Fault Refusal :=
  s.run fun k => k.takeRequest p .readVerify fun tag k => k.answerReadVerify p tag

/-! ## The start of an entry (R143, R144) -/

/-- A RUNNING entry that waits for its cartridge has it judged again; with none RUNNING the queue is looked through. -/
def execVerifyEntryStart (s : State) : Host.Outcome State Fault Refusal := s.act fun k => k.verifyRejudge.verifyStart

end Sys2Proof.Machine
end

