-- ==== Sys2Proof/Machine/Dispatch.lean ====
section
/-! DEFINITION. The meaning of every command: one arm per row of spec/opcode_table.json. -/

namespace Sys2Proof.Machine

def exec (i : Instr) (s : State) : Host.Outcome State Fault Refusal :=
  match i with
  | .powerUp sense t0 t1 imageIntact => Sys2Proof.Machine.execPowerUp sense t0 t1 imageIntact s
  | .requestFrame p tag code args => Sys2Proof.Machine.execRequestFrame p tag code args s
  | .badRequest p => Sys2Proof.Machine.execBadRequest p s
  | .readInventory p e => Sys2Proof.Machine.execReadInventory p e s
  | .reserve p e => Sys2Proof.Machine.execReserve p e s
  | .release p e => Sys2Proof.Machine.execRelease p e s
  | .setProtect p dir idx => Sys2Proof.Machine.execSetProtect p dir idx s
  | .openDoor p m => Sys2Proof.Machine.execOpenDoor p m s
  | .grantQuiesce p m => Sys2Proof.Machine.execGrantQuiesce p m s
  | .withdrawQuiesce p m => Sys2Proof.Machine.execWithdrawQuiesce p m s
  | .importCart p d => Sys2Proof.Machine.execImportCart p d s
  | .exportCart p l => Sys2Proof.Machine.execExportCart p l s
  | .move p src dst => Sys2Proof.Machine.execMove p src dst s
  | .load p src dst => Sys2Proof.Machine.execLoad p src dst s
  | .unload p src dst => Sys2Proof.Machine.execUnload p src dst s
  | .cancelMove p id => Sys2Proof.Machine.execCancelMove p id s
  | .resumePicker p => Sys2Proof.Machine.execResumePicker p s
  | .readQueue p => Sys2Proof.Machine.execReadQueue p s
  | .setWatch p w en q thr dir act => Sys2Proof.Machine.execSetWatch p w en q thr dir act s
  | .setClimateInterval p secs => Sys2Proof.Machine.execSetClimateInterval p secs s
  | .setAcclimation p mins => Sys2Proof.Machine.execSetAcclimation p mins s
  | .clearAcclimation p l => Sys2Proof.Machine.execClearAcclimation p l s
  | .readClimate p => Sys2Proof.Machine.execReadClimate p s
  | .readCartridge p l => Sys2Proof.Machine.execReadCartridge p l s
  | .readSet p set part => Sys2Proof.Machine.execReadSet p set part s
  | .listSets p f start => Sys2Proof.Machine.execListSets p f start s
  | .expireSet p set today => Sys2Proof.Machine.execExpireSet p set today s
  | .setRetention p set days => Sys2Proof.Machine.execSetRetention p set days s
  | .reclaim p l => Sys2Proof.Machine.execReclaim p l s
  | .forgetCartridge p l => Sys2Proof.Machine.execForgetCartridge p l s
  | .writeDictionary p slot bytes => Sys2Proof.Machine.execWriteDictionary p slot bytes s
  | .readDictionary p slot => Sys2Proof.Machine.execReadDictionary p slot s
  | .openSet p ch target hint dict ret today yield => Sys2Proof.Machine.execOpenSet p ch target hint dict ret today yield s
  | .sync p set => Sys2Proof.Machine.execSync p set s
  | .closeSet p set => Sys2Proof.Machine.execCloseSet p set s
  | .abortSet p set => Sys2Proof.Machine.execAbortSet p set s
  | .verifySet p set => Sys2Proof.Machine.execVerifySet p set s
  | .cancelVerify p set => Sys2Proof.Machine.execCancelVerify p set s
  | .setVerifyPolicy p trig skip passes mode pat overlap => Sys2Proof.Machine.execSetVerifyPolicy p trig skip passes mode pat overlap s
  | .readVerify p => Sys2Proof.Machine.execReadVerify p s
  | .restore p set first count damage => Sys2Proof.Machine.execRestore p set first count damage s
  | .cancelRestore p id => Sys2Proof.Machine.execCancelRestore p id s
  | .checkpoint p => Sys2Proof.Machine.execCheckpoint p s
  | .setAutoCheckpoint p v => Sys2Proof.Machine.execSetAutoCheckpoint p v s
  | .readStore p => Sys2Proof.Machine.execReadStore p s
  | .reload p => Sys2Proof.Machine.execReload p s
  | .recoverCartridge p l => Sys2Proof.Machine.execRecoverCartridge p l s
  | .linkReset p l => Sys2Proof.Machine.execLinkReset p l s
  | .libraryReset p => Sys2Proof.Machine.execLibraryReset p s
  | .dataOut l ch flags payload => Sys2Proof.Machine.execDataOut l ch flags payload s
  | .creditFrameReceived l ch count => Sys2Proof.Machine.execCreditFrameReceived l ch count s
  | .damagedFrame p => Sys2Proof.Machine.execDamagedFrame p s
  | .frameSent l => Sys2Proof.Machine.execFrameSent l s
  | .panelRead whole => Sys2Proof.Machine.execPanelRead whole s
  | .lockGained l => Sys2Proof.Machine.execLockGained l s
  | .lockLost l => Sys2Proof.Machine.execLockLost l s
  | .offlineTimerExpiry l => Sys2Proof.Machine.execOfflineTimerExpiry l s
  | .doorSwitchOpen m => Sys2Proof.Machine.execDoorSwitchOpen m s
  | .doorSwitchClosed m => Sys2Proof.Machine.execDoorSwitchClosed m s
  | .mailSwitchOpen => Sys2Proof.Machine.execMailSwitchOpen s
  | .mailSwitchClosed => Sys2Proof.Machine.execMailSwitchClosed s
  | .keySwitchChange k => Sys2Proof.Machine.execKeySwitchChange k s
  | .askTimerExpiry m => Sys2Proof.Machine.execAskTimerExpiry m s
  | .doorOpenTimerExpiry m => Sys2Proof.Machine.execDoorOpenTimerExpiry m s
  | .mailOpenTimerExpiry => Sys2Proof.Machine.execMailOpenTimerExpiry s
  | .doorUnlock m => Sys2Proof.Machine.execDoorUnlock m s
  | .orderStart => Sys2Proof.Machine.execOrderStart s
  | .fetchDone r => Sys2Proof.Machine.execFetchDone r s
  | .fetchEmpty => Sys2Proof.Machine.execFetchEmpty s
  | .putDone => Sys2Proof.Machine.execPutDone s
  | .readDone r => Sys2Proof.Machine.execReadDone r s
  | .homeDone holding transportHolds => Sys2Proof.Machine.execHomeDone holding transportHolds s
  | .gripFault => Sys2Proof.Machine.execGripFault s
  | .pathBlocked => Sys2Proof.Machine.execPathBlocked s
  | .commandTimerExpiry => Sys2Proof.Machine.execCommandTimerExpiry s
  | .threaded c tab => Sys2Proof.Machine.execThreaded c tab s
  | .ejected c => Sys2Proof.Machine.execEjected c s
  | .positioned c => Sys2Proof.Machine.execPositioned c s
  | .blockRead c bytes => Sys2Proof.Machine.execBlockRead c bytes s
  | .blockUnreadable c => Sys2Proof.Machine.execBlockUnreadable c s
  | .endOfData c recordedEnd => Sys2Proof.Machine.execEndOfData c recordedEnd s
  | .blockWritten c => Sys2Proof.Machine.execBlockWritten c s
  | .endOfMedia c => Sys2Proof.Machine.execEndOfMedia c s
  | .transportFault c k => Sys2Proof.Machine.execTransportFault c k s
  | .transportOrderTimerExpiry c => Sys2Proof.Machine.execTransportOrderTimerExpiry c s
  | .transportResetDone c r => Sys2Proof.Machine.execTransportResetDone c r s
  | .coderResult c => Sys2Proof.Machine.execCoderResult c s
  | .expanderReport c => Sys2Proof.Machine.execExpanderReport c s
  | .bankCodingStart c => Sys2Proof.Machine.execBankCodingStart c s
  | .creditGrant c => Sys2Proof.Machine.execCreditGrant c s
  | .syncComplete c => Sys2Proof.Machine.execSyncComplete c s
  | .summaryBlockWrite c => Sys2Proof.Machine.execSummaryBlockWrite c s
  | .suspensionComplete c => Sys2Proof.Machine.execSuspensionComplete c s
  | .verifyEntryStart => Sys2Proof.Machine.execVerifyEntryStart s
  | .restorePlacement => Sys2Proof.Machine.execRestorePlacement s
  | .sampleIntervalExpiry => Sys2Proof.Machine.execSampleIntervalExpiry s
  | .sensorAnswer r => Sys2Proof.Machine.execSensorAnswer r s
  | .sensorNoAnswer => Sys2Proof.Machine.execSensorNoAnswer s
  | .minuteTimerExpiry => Sys2Proof.Machine.execMinuteTimerExpiry s
  | .needCartridgeTimerExpiry c => Sys2Proof.Machine.execNeedCartridgeTimerExpiry c s
  | .stallTimerExpiry c => Sys2Proof.Machine.execStallTimerExpiry c s
  | .flashEraseDone => Sys2Proof.Machine.execFlashEraseDone s
  | .flashProgramDone pageMatches lastPage => Sys2Proof.Machine.execFlashProgramDone pageMatches lastPage s
  | .commitMarkDone => Sys2Proof.Machine.execCommitMarkDone s
  | .flashErrorReport => Sys2Proof.Machine.execFlashErrorReport s
  | .flashTimerExpiry => Sys2Proof.Machine.execFlashTimerExpiry s
  | .imageReadDone intact => Sys2Proof.Machine.execImageReadDone intact s

end Sys2Proof.Machine
end

