-- ==== Sys2Proof/Machine/Step.lean ====
section
/-! DEFINITION. One step: the oldest waiting command takes effect, or, with none waiting, one second passes for the ages of the last readings. -/

namespace Sys2Proof.Machine

/-- The command at the front of the queue takes effect. On an empty queue one second passes for the ages READ_CLIMATE reports (R46, R53). -/
def step (s : State) : Host.Outcome State Fault Refusal :=
  match s.pending with
  | [] => .next { s with ctl := s.ctl.setClimate s.ctl.climate.tick }
  | c :: rest => exec c { s with pending := rest }

/-- The command a word spells, put at the front of the queue; no word spells one. -/
def State.withFetchWord (s : State) (nbits w : Nat) : State :=
  match decodeTableWord nbits w with
  | some c => { s with pending := c :: s.pending }
  | none => s

end Sys2Proof.Machine
end

