-- ==== Sys2Proof/WellFormed.lean ====
section
/-! DEFINITION. When a command is one that the block can be sent: its numbers fit the sizes that R176 and 11.1 give them, its labels are labels as a frame carries them,
and a variant named `other` is none of the named ones. -/

namespace Sys2Proof

/-! ## Sizes -/

def fitsByte (n : Nat) : Bool := decide (n < 256)
def fitsWord (n : Nat) : Bool := decide (n < 65536)
def fitsQuad (n : Nat) : Bool := decide (n < 4294967296)

/-- A label as a frame carries it in 8 bytes: at most 8 characters, the last of them no space. -/
def wfLabel (l : Label) : Bool := decide (l.length ≤ 8) && decide (l.getLast? ≠ some 0x20#8)

/-- A threshold fits 16 bits, signed. -/
def wfThreshold (t : Int) : Bool := decide (-32768 ≤ t) && decide (t < 32768)

/-! ## Variant arguments -/

def ImportDest.wf : ImportDest → Bool
  | .any => true
  | .element e => decide (1 ≤ e) && fitsByte e

def UnloadDest.wf : UnloadDest → Bool
  | .home => true
  | .element e => decide (1 ≤ e) && fitsByte e

def SetPart.wf : SetPart → Bool
  | .summary => true
  | .index f => fitsByte f
  | .other k => decide (2 ≤ k) && fitsByte k

def SetFilter.wf : SetFilter → Bool
  | .all => true
  | .owner l => fitsByte l
  | .cartridge l => wfLabel l
  | .other k => decide (3 ≤ k) && fitsByte k

def TargetArg.wf : TargetArg → Bool
  | .label l => wfLabel l
  | .pool => true
  | .other k => decide (2 ≤ k) && fitsByte k

def PatternArg.wf : PatternArg → Bool
  | .all => true
  | .everyNth n => fitsByte n
  | .run k t => fitsByte k && fitsByte t
  | .other k => decide (3 ≤ k) && fitsByte k

def CountArg.wf : CountArg → Bool
  | .count n => fitsQuad n
  | .all => true
  | .other k => decide (2 ≤ k) && fitsByte k

/-! ## Requests and commands -/

/-- The bytes of WRITE_DICTIONARY at most: a body of 4,160 holds its tag, its code and its slot besides. -/
def dictionaryRoom : Nat := 4157

def Req.wf : Req → Bool
  | .readInventory e | .reserve e | .release e | .openDoor e | .grantQuiesce e | .withdrawQuiesce e => fitsByte e
  | .setProtect d i => fitsByte d && fitsByte i
  | .importCart d => d.wf
  | .exportCart l | .clearAcclimation l | .readCartridge l | .reclaim l | .forgetCartridge l | .recoverCartridge l => wfLabel l
  | .move a b | .load a b => fitsByte a && fitsByte b
  | .unload a d => fitsByte a && d.wf
  | .cancelMove n | .setClimateInterval n | .setAcclimation n | .readDictionary n | .cancelRestore n | .setAutoCheckpoint n | .linkReset n => fitsByte n
  | .resumePicker | .readQueue | .readClimate | .readVerify | .checkpoint | .readStore | .reload | .libraryReset => true
  | .setWatch w en q t d a => fitsByte w && fitsByte en && fitsByte q && wfThreshold t && fitsByte d && fitsByte a
  | .readSet s p => fitsWord s && p.wf
  | .listSets f n => f.wf && fitsQuad n
  | .expireSet s t | .setRetention s t => fitsWord s && fitsWord t
  | .writeDictionary s bs => fitsByte s && decide (bs.length ≤ dictionaryRoom)
  | .openSet ch t h d r day y => fitsByte ch && t.wf && fitsQuad h && fitsByte d && fitsWord r && fitsWord day && fitsByte y
  | .sync s | .closeSet s | .abortSet s | .verifySet s | .cancelVerify s => fitsWord s
  | .setVerifyPolicy t s p m pat o => fitsByte t && fitsByte s && fitsByte p && fitsByte m && pat.wf && fitsByte o
  | .restore s f c d => fitsWord s && fitsQuad f && c.wf && fitsByte d

/-- The request a row takes from the head of a port's queue, with its requester; the other rows take none. -/
def Instr.request? : Instr → Option (Requester × Req)
  | .readInventory p e => some (p, .readInventory e)
  | .reserve p e => some (p, .reserve e)
  | .release p e => some (p, .release e)
  | .setProtect p d i => some (p, .setProtect d i)
  | .openDoor p m => some (p, .openDoor m)
  | .grantQuiesce p m => some (p, .grantQuiesce m)
  | .withdrawQuiesce p m => some (p, .withdrawQuiesce m)
  | .importCart p d => some (p, .importCart d)
  | .exportCart p l => some (p, .exportCart l)
  | .move p a b => some (p, .move a b)
  | .load p a b => some (p, .load a b)
  | .unload p a d => some (p, .unload a d)
  | .cancelMove p i => some (p, .cancelMove i)
  | .resumePicker p => some (p, .resumePicker)
  | .readQueue p => some (p, .readQueue)
  | .setWatch p w en q t d a => some (p, .setWatch w en q t d a)
  | .setClimateInterval p n => some (p, .setClimateInterval n)
  | .setAcclimation p n => some (p, .setAcclimation n)
  | .clearAcclimation p l => some (p, .clearAcclimation l)
  | .readClimate p => some (p, .readClimate)
  | .readCartridge p l => some (p, .readCartridge l)
  | .readSet p s part => some (p, .readSet s part)
  | .listSets p f n => some (p, .listSets f n)
  | .expireSet p s t => some (p, .expireSet s t)
  | .setRetention p s d => some (p, .setRetention s d)
  | .reclaim p l => some (p, .reclaim l)
  | .forgetCartridge p l => some (p, .forgetCartridge l)
  | .writeDictionary p s bs => some (p, .writeDictionary s bs)
  | .readDictionary p s => some (p, .readDictionary s)
  | .openSet p ch t h d r day y => some (p, .openSet ch t h d r day y)
  | .sync p s => some (p, .sync s)
  | .closeSet p s => some (p, .closeSet s)
  | .abortSet p s => some (p, .abortSet s)
  | .verifySet p s => some (p, .verifySet s)
  | .cancelVerify p s => some (p, .cancelVerify s)
  | .setVerifyPolicy p t s n m pat o => some (p, .setVerifyPolicy t s n m pat o)
  | .readVerify p => some (p, .readVerify)
  | .restore p s f c d => some (p, .restore s f c d)
  | .cancelRestore p i => some (p, .cancelRestore i)
  | .checkpoint p => some (p, .checkpoint)
  | .setAutoCheckpoint p v => some (p, .setAutoCheckpoint v)
  | .readStore p => some (p, .readStore)
  | .reload p => some (p, .reload)
  | .recoverCartridge p l => some (p, .recoverCartridge l)
  | .linkReset p l => some (p, .linkReset l)
  | .libraryReset p => some (p, .libraryReset)
  | .powerUp .. | .requestFrame .. | .badRequest .. | .dataOut .. | .creditFrameReceived .. | .damagedFrame .. | .frameSent .. | .panelRead ..
  | .lockGained .. | .lockLost .. | .offlineTimerExpiry .. | .doorSwitchOpen .. | .doorSwitchClosed .. | .mailSwitchOpen | .mailSwitchClosed
  | .keySwitchChange .. | .askTimerExpiry .. | .doorOpenTimerExpiry .. | .mailOpenTimerExpiry | .doorUnlock .. | .orderStart | .fetchDone .. | .fetchEmpty
  | .putDone | .readDone .. | .homeDone .. | .gripFault | .pathBlocked | .commandTimerExpiry | .threaded .. | .ejected .. | .positioned .. | .blockRead ..
  | .blockUnreadable .. | .endOfData .. | .blockWritten .. | .endOfMedia .. | .transportFault .. | .transportOrderTimerExpiry .. | .transportResetDone ..
  | .coderResult .. | .expanderReport .. | .bankCodingStart .. | .creditGrant .. | .syncComplete .. | .summaryBlockWrite .. | .suspensionComplete ..
  | .verifyEntryStart | .restorePlacement | .sampleIntervalExpiry | .sensorAnswer .. | .sensorNoAnswer | .minuteTimerExpiry | .needCartridgeTimerExpiry ..
  | .stallTimerExpiry .. | .flashEraseDone | .flashProgramDone .. | .commitMarkDone | .flashErrorReport | .flashTimerExpiry | .imageReadDone .. => none

/-- A request frame that is not damaged: a tag and a code of a byte each, and arguments that fit the body. -/
def wfRequestFrame (tag code : Nat) (args : List Byte) : Bool := fitsByte tag && fitsByte code && decide (args.length ≤ 4158)

/-- A command that the block can be sent. The reports of sensors, readers and transports carry what the device reports, whatever it is. -/
def Instr.wf (i : Instr) : Bool :=
  match i.request? with
  | some (_, r) => r.wf
  | none =>
    match i with
    | .requestFrame _ tag code args => wfRequestFrame tag code args
    | .dataOut _ ch flags payload => fitsByte ch && fitsByte flags && decide (payload.length ≤ 4158)
    | .creditFrameReceived _ ch n => fitsByte ch && fitsByte n
    | _ => true

end Sys2Proof
end

