-- ==== Sys2Proof/Safety.lean ====
section
/-! DEFINITION. The terms claims use: a request taken at the head of its port's queue, an answer that changes nothing else, and the law of the climate hold. -/

namespace Sys2Proof.Machine

/-- The request `r` stands at the head of port `p` in the queued request `q`, and the port takes requests (R176, R178). -/
def AtHead (s : State) (p : Requester) (q : QueuedReq) (r : Req) : Prop := s.ctl.headRequest p = some q ∧ Req.decode q.code q.args = some r

/-- The codes of the requests that the panel may send (R181). -/
def panelCodes : List Nat := [1, 4, 5, 8, 9, 10, 14, 15, 16, 17, 18, 19, 20, 21, 22, 23, 24, 25, 26, 27, 29, 34, 37, 40, 42, 43, 44, 46]

/-- The controller once the head request of port `p` has been answered: the request has left its queue, and the port has the response with the request's tag (R176). -/
def Ctl.afterAnswer (s : Ctl) (p : Requester) (q : QueuedReq) (code : Code) (r : Result := .none) : Ctl := (s.popRequest p).respond p q.tag code r

/-- The state whose controller is `k`; the waiting commands stay. -/
def State.withCtl (s : State) (k : Ctl) : State := { s with ctl := k }

/-- Nothing is due at a command's end: no transport order that was not taken waits for its answer (R129), and no RELOAD that waits for the sessions it has aborted can go on (R171). It
holds between commands: what is due when a command ends is done before it ends. -/
def Answered (k : Ctl) : Prop :=
  (∀ c, (k.tr c).rejected = none) ∧ (k.store.reload = .ending ∨ k.store.reload = .again → ∃ c x, k.session c = some x ∧ x.state = .aborting)

/-- No restore, verify or recovery has the channel, so that none waits there for an order's report. -/
def NothingWaits (k : Ctl) (c : Chan) : Prop := k.restoreOn c = none ∧ k.verifyOn c = none ∧ k.store.recovery = none

/-- Every block but the Inventory Table and the ports is the same. -/
def SameOutside (s t : Ctl) : Prop :=
  t.picker = s.picker ∧ t.climate = s.climate ∧ t.cat = s.cat ∧ t.dicts = s.dicts ∧ t.chans = s.chans ∧ t.trans = s.trans
    ∧ t.verify = s.verify ∧ t.restore = s.restore ∧ t.store = s.store

/-- Every block but the ports is the same: what only a read, a refused request or a frame sent leaves. -/
def SameInside (s t : Ctl) : Prop := t.inv = s.inv ∧ SameOutside s t

/-- The settings that only their own commands change. -/
structure Standing where
  key : Key
  protect : Protect
  climate : Climate
  dicts : Dicts
  policies : PerLink Policy
  auto : Bool

def Ctl.standing (s : Ctl) : Standing := ⟨s.inv.key, s.inv.protect, s.climate, s.dicts, s.verify.policies, s.store.auto⟩

/-- The law of the Climate Monitor (chapter 3): the hold is active exactly while a HOLD watch's crossing or the fail-safe hold asks for it (R52); the failure count stays
within 0 to 255, and the fail-safe hold is on only from the third failure (R50); a disabled watch has a result that is not valid (R47); sampling is STOPPED exactly while no
watch is enabled, and the next watch and the one being read are enabled (3.3, R48, R51). -/
structure Climate.Law (c : Climate) : Prop where
  hold : c.hold = c.holdDue
  failures : c.failures ≤ 255
  failSafe : c.failSafe = true → 3 ≤ c.failures
  disabled : ∀ w, (c.watches.get w).enabled = false → (c.results.get w).valid = false
  stopped : c.sampling = .stopped ↔ ∀ w, (c.watches.get w).enabled = false
  next : c.sampling ≠ .stopped → (c.watches.get c.next).enabled = true
  reading : ∀ w, c.reading = some w → (c.watches.get w).enabled = true

/-- The AUDIT of a magazine or of M that the Inventory Table raises, as it stands in the queue. -/
def auditOrder (id : Nat) (src : OrderSource) (role : OrderRole) : Order :=
  { id := id, requester := none, internal := true, raisedBy := some .inventory, kind := .audit, source := src, dest := .none, purpose := .none,
    wanted := none, state := .ready, retry := 0, role := role, unloadAfter := false }

/-- An order of the Inventory Table enters the Move Queue's free place with the next free id, or is held where 8 orders stand in the queue (R16, R26). -/
def Raised (k t : Ctl) (o : Nat → Order) : Prop :=
  (k.picker.queue.length < 8 → t = { k with picker := { k.picker with
      queue := k.picker.queue ++ [o k.picker.freeId], nextId := wrapNext 255 k.picker.freeId } })
  ∧ (8 ≤ k.picker.queue.length → k.picker.held.length < 32 → t = { k with picker := { k.picker with held := k.picker.held ++ [o 0] } })
  ∧ (8 ≤ k.picker.queue.length → 32 ≤ k.picker.held.length → t = k)

/-- Nothing follows the departure of an order from the Move Queue: no offer is held, no door is ASKING, and no activity that has ended still has a channel to give back. -/
structure LeavesQuietly (k : Ctl) : Prop where
  held : k.picker.held = []
  doors : ∀ m, (k.door m).state ≠ .asking
  drains : ∀ c, (k.chan c).drain = none

/-- No session, restore or verify waits for a cartridge, but for the restore whose LOAD brings one to the transport of channel `bringing`. -/
structure NobodyWaits (k : Ctl) (bringing : Option Chan) : Prop where
  sessions : ∀ c x, k.session c = some x → x.state ≠ .needCartridge
  restores : ∀ c r, k.restoreOn c = some r → r.state ≠ .switching ∧ (r.state = .loading → bringing = some c)
  verifies : ∀ v, k.verifyRunning = some v → v.waits = false

/-- The offers of AUDITs and of SCAN_ALL join the Move Queue in their order, each with the next free id, while it has a free place, and are then held while there is room (R26). -/
def Picker.joinedBy (p : Picker) : List Order → Picker
  | [] => p
  | o :: rest =>
    if p.queue.length < 8 then
      joinedBy { p with queue := p.queue ++ [{ o with id := p.freeId, state := .ready }], nextId := wrapNext 255 p.freeId } rest
    else if p.held.length < 32 then joinedBy { p with held := p.held ++ [o] } rest
    else p

/-- The gripper is settled (R40): the picker is IDLE with nothing left of a failed order or of a search, every requester is told, the offers held over the fault have joined the Move
Queue, and nothing else has changed. -/
def Ctl.gripperSettled (k : Ctl) : Ctl :=
  { k.notifyAll .pickerIdle with picker := { k.picker.joinedBy k.picker.auditOffers with
      state := .idle, cmd := none, phase := .idle, failed := none, carried := none, homeRetry := 0, auditOffers := [] } }

/-- An element's record becomes FULL with an entry, or EMPTY with none; its reservation stays. -/
def Ctl.fullWith (k : Ctl) (e : Element) (en : Entry) : Ctl := k.setElem e { k.elem e with occ := .full, entry := some en }
def Ctl.emptied (k : Ctl) (e : Element) : Ctl := k.setElem e { k.elem e with occ := .empty, entry := none }

/-- The move of an import or an export, as it stands in the queue. -/
def mailMove (id : Nat) (p : Option Requester) (src : Element) (dest : OrderDest) (wanted : Option Label) (role : OrderRole) : Order :=
  { id := id, requester := p, internal := true, raisedBy := some .inventory, kind := .move, source := .element src, dest := dest, purpose := .none,
    wanted := wanted, state := .ready, retry := 0, role := role, unloadAfter := false }

/-- The picker but for its orders: its state, command, phase, last fault, what a fault left, and what a scan has passed over. -/
structure Motion where
  state : PickerState
  cmd : Option MotionCmd
  phase : Phase
  lastFault : Option Code
  failed : Option FailedOrder
  carried : Option Entry
  homeRetry : Nat
  auditOffers : List Order
  passed : List Element

def Picker.motion (p : Picker) : Motion := ⟨p.state, p.cmd, p.phase, p.lastFault, p.failed, p.carried, p.homeRetry, p.auditOffers, p.passed⟩

def Ctl.motion (s : Ctl) : Motion := s.picker.motion

/-- The order a MOVE, a LOAD or an UNLOAD asks for, where its elements are of the right kind. -/
def askedOrder (p : Requester) : Instr → Option (Option Order)
  | .move _ a b => some (moveOrder p a b)
  | .load _ a b => some (loadOrder p a b)
  | .unload _ a d => some (unloadOrder p a d)
  | _ => none

/-- Every block but the Climate Monitor, the Store Controller and the ports is the same. -/
def SameButClimate (s t : Ctl) : Prop :=
  t.inv = s.inv ∧ t.picker = s.picker ∧ t.cat = s.cat ∧ t.dicts = s.dicts ∧ t.chans = s.chans ∧ t.trans = s.trans ∧ t.verify = s.verify ∧ t.restore = s.restore

/-- Every requester is told these notices, in their order. -/
def Ctl.tellAll (k : Ctl) (ns : List Notice) : Ctl := ns.foldl Ctl.notifyAll k

/-- What a judgement of the hold tells (R52), where it was `was` before and the monitor is `c` after it: nothing where it has not changed, that it has ended, or that it has begun and by
which cause. -/
def Climate.holdTold (was : Bool) (c : Climate) : List Notice :=
  let crossed : WatchId → Bool := fun w => decide ((c.watches.get w).action = .hold) && (c.results.get w).valid && (c.results.get w).crossed
  if c.hold = was then []
  else if c.hold = true then [.hold true (if crossed .w1 = true then .watch .w1 else if crossed .w2 = true then .watch .w2 else .sensor)]
  else [.hold false .cleared]

/-- What the change of a watch or of the interval leaves of the monitor: no reading in progress, and the settings and last readings that it does not write. -/
def ClimateRestarted (c d : Climate) (first : WatchId) : Prop :=
  d.reading = none ∧ d.lastTemperature = c.lastTemperature ∧ d.lastHumidity = c.lastHumidity ∧ d.acclimation = c.acclimation ∧ d.minuteTimer = c.minuteTimer
    ∧ d.hold = d.holdDue
    ∧ (if (d.watches.get first).enabled = true then d.sampling = .running ∧ d.next = first ∧ d.failures = c.failures ∧ d.failSafe = c.failSafe
       else if (d.watches.get first.other).enabled = true then
         d.sampling = .running ∧ d.next = first.other ∧ d.failures = c.failures ∧ d.failSafe = c.failSafe
       else d.sampling = .stopped ∧ d.failures = 0 ∧ d.failSafe = false)

/-- An abort of the session `x` that must wait: the set is WRITING, and a data block of bank `i` is at the transport; the channel is the session's, the Move Queue holds no offer. -/
def WaitsToAbort (k : Ctl) (c : Chan) (x : Session) (r : SetRec) (i : BankIx) : Prop :=
  r.state = .writing ∧ ((k.chan c).bank i).state = .writing ∧ ((k.chan c).bank i.other).state ≠ .writing ∧ ((k.chan c).bank i.other).state ≠ .lent
    ∧ (k.chan c).mode = .write ∧ x.state ≠ .suspended ∧ k.picker.held = [] ∧ k.restoreOn c = none ∧ Answered k

/-- R116, steps 1 to 3, while a block of bank `i` is being written: the session is ABORTING with its reason and no credit, its orders that are not RUNNING have left the Move Queue, the other
bank is EMPTY and the coder idle; the block goes on, and the set stays as it is until the block is answered. -/
def AbortBegun (k t : Ctl) (c : Chan) (x : Session) (reason : Code) (i : BankIx) : Prop :=
  t.inv = k.inv ∧ t.cat = k.cat ∧ t.trans = k.trans ∧ t.climate = k.climate ∧ t.dicts = k.dicts ∧ t.verify = k.verify ∧ t.restore = k.restore ∧ t.store = k.store
    ∧ t.panel = k.panel
    ∧ t.chan c = { (k.chan c).setBank i.other .empty with
        credits := 0, coder := .idle
        session := some { x with state := .aborting, needTimer := false, syncPending := false
                                 abort := some { reason := reason, noSummary := false, noUnload := false } } }
    ∧ t.chan c.other = k.chan c.other
    ∧ t.picker.queue.map (·.id) = (k.picker.queue.filter fun o => decide (o.state = .running) || !decide (o.raisedBy = some (.chan c))).map (·.id)
    ∧ (∀ l, l ≠ x.owner → t.link l = k.link l)
    ∧ t.link x.owner = { k.link x.owner with creditFrames := (k.link x.owner).creditFrames.filter fun f => f.1 ≠ c }

/-- The four conditions of the law of writing (R130) for a data or summary block on the cartridge `y`, whose entry is `en`. -/
def LawOfWriting (k : Ctl) (y : Cart) (en : Option Entry) : Prop :=
  (∀ e h, en = some e → e.home = some h → k.inv.protect.covers h = false) ∧ (∀ e, en = some e → e.tab ≠ .set)
    ∧ classOf y.label ≠ .unsupported ∧ y.state = .opened

/-- No block of the session `x` is in hand: no bank is at the tape or on loan, its transport has no order outstanding, the channel is the session's alone, and the Move Queue holds no offer. -/
def NothingInHand (k : Ctl) (c : Chan) (x : Session) : Prop :=
  (k.chan c).mode = .write ∧ x.state ≠ .suspended ∧ (k.tr c).order = none ∧ (∀ i, ((k.chan c).bank i).state ≠ .writing ∧ ((k.chan c).bank i).state ≠ .lent)
    ∧ ((k.chan c).buf = .free ∨ ∃ b, (k.chan c).buf = .held b) ∧ (k.chan c).claim = none ∧ k.picker.held = [] ∧ k.restoreOn c = none ∧ Answered k

/-- R116, steps 1 to 3, with no block in hand: the session is ABORTING with its reason and no credit, its orders that are not RUNNING have left the Move Queue, a RUNNING one belongs to no
activity and a LOAD among them is to be unloaded, both banks are EMPTY and the coder idle. -/
def Ctl.abortedNow (k : Ctl) (c : Chan) (x : Session) (reason : Code) : Ctl :=
  { k.setLink x.owner { k.link x.owner with creditFrames := (k.link x.owner).creditFrames.filter fun f => f.1 ≠ c } with
    picker := { k.picker with
      queue := (k.picker.queue.filter fun o => decide (o.state = .running) || !decide (o.raisedBy = some (.chan c))).map fun o =>
        if o.raisedBy = some (.chan c) then { o with raisedBy := none, unloadAfter := decide (o.kind = .load) } else o }
    chans := k.chans.set c { k.chan c with
      credits := 0, bank0 := .empty, bank1 := .empty, coder := .idle, buf := .free
      session := some { x with state := .aborting, needTimer := false, syncPending := false, abort := some { reason := reason, noSummary := false, noUnload := false } } } }

/-- R116, steps 4 to 7, of an abort with no block in hand, where `r` is the set's record. An OPENING set is deleted; the TRUNCATED summary of a WRITING one is written, or located for, where its
last extent's cartridge is MOUNTED, does not hold the CONTINUES summary, and the law of writing allows it; else the set becomes TRUNCATED. The end is told to the owner, the channel is IDLE, and a
cartridge of the session's that stands MOUNTED is ordered to be unloaded. -/
def AbortEnds (k t : Ctl) (c : Chan) (x : Session) (r : SetRec) (reason : Code) : Prop :=
  let k1 := k.abortedNow c x reason
  let finish : Catalog → SetEnd → Nat → Ctl := fun cat code n =>
    { k1.notify (.link x.owner) (.sessionEnded x.setId code reason n) with
      cat := cat, store := k.store.noteChange, chans := k.chans.set c { k1.chan c with session := none, mode := .idle } }
  let leaves : Ctl → Prop := fun k2 =>
    (k.labelIn c = none ∨ (k.tr c).state = .faulted → t = k2)
    ∧ ∀ l, k.labelIn c = some l → x.chosen = some l → (k.tr c).state = .mounted → (k.tr c).pendingEject = false → k1.picker.queue.length < 8 →
        k1.unloadRaised c (some (.link x.owner)) none = false →
        t = { k2.setTr c { k.tr c with state := .ejecting, order := some { kind := .eject, task := .eject } } with
          picker := { k1.picker with
            queue := k1.picker.queue ++ [{ Order.blank with
              id := k1.picker.freeId, requester := some (.link x.owner), kind := .unload, source := .element (.transport c), dest := .home, wanted := some l, state := .ejectWait }]
            nextId := wrapNext 255 k1.picker.freeId } }
  let summary : Cart → Prop := fun y => x.contWritten = false ∧ (k.tr c).state = .mounted ∧ r.lastLabel = some y.label ∧ k.labelHeld c = some y.label ∧ k.cartIn c = some y
    ∧ LawOfWriting k y (k.entryIn c)
  (r.state = .opening → leaves (finish (k.cat.deleteSet x.setId) .deleted 0))
  ∧ (r.state = .writing → (∀ y, ¬summary y) → k.store.auto = false →
      leaves (finish (k.cat.modSet x.setId fun r => if r.state = .writing then { r with state := .truncated } else r) .truncated r.records))
  ∧ ∀ y, r.state = .writing → summary y → t = k1.setTr c { k.tr c with
      state := if (k.tr c).pos = y.eod then .writing else .moving
      order := some (if (k.tr c).pos = y.eod then { kind := .write (summaryBlock y r .truncated), task := .sSumWrite .truncated }
        else { kind := .locate y.eod, task := .sSumLocate .truncated }) }

/-- What keeps the law of write credits (R106): no bank that holds a session's bytes holds more than 65,536; at most 16 credits are outstanding; and while any is, either a bank
is EMPTY, or the FILLING bank has room for every credited byte and every record end still to come. -/
structure CreditLaw (ch : Channel) : Prop where
  banks : ∀ i, (ch.bank i).state ≠ .empty → (ch.bank i).state ≠ .lent → (ch.bank i).bytes.length ≤ 65536
  credits : ch.credits ≤ 16
  room : ch.credits = 0 ∨ (∃ i, (ch.bank i).state = .empty)
    ∨ ∃ i, ch.filling = some i ∧ 4096 * ch.credits + (ch.bank i).bytes.length ≤ 65536 ∧ ch.credits + (ch.bank i).ends.length ≤ 255

/-- The task is a step of a write session. -/
def Task.ofSession : Task → Bool
  | .sThread | .sVolLocate | .sVolRead | .sEndLocate | .sEndRead | .sVolWriteLocate | .sVolWrite | .sDataLocate _ | .sDataWrite _ | .sSumLocate _ | .sSumWrite _ => true
  | _ => false

/-- The law of channel activity (R102): the sets of the write sessions stand in the catalog, OPENING or WRITING; no cartridge is the current extent, or the chosen cartridge, of
both; and a channel's mode is that of its one activity. A running restore has its channel in RESTORE, a running verify in VERIFY, each alone; a session on a channel in RESTORE
is the suspended one, and on a channel in VERIFY it waits for the pause; a channel whose ended activity still waits for a report has no other but the session that is to take it;
a recovery has its claim on an IDLE channel; and the orders of a write session, at its transport and its LOAD in the Move Queue, belong to a channel in WRITE. -/
structure ActivityLaw (k : Ctl) : Prop where
  answered : Answered k
  sets : ∀ c x, k.session c = some x → ∃ r, k.cat.set? x.setId = some r ∧ (r.state = .opening ∨ r.state = .writing)
  sessions : ∀ x y, k.session .c0 = some x → k.session .c1 = some y → x.setId ≠ y.setId ∧ ∀ l, ¬(k.sessionUses x l = true ∧ k.sessionUses y l = true)
  restore : ∀ r ∈ k.restore.running, ∀ c, r.state ≠ .claiming → r.chan = some c →
    (k.chan c).mode = .restore ∧ ∀ q ∈ k.restore.running, q.state ≠ .claiming → q.chan = some c → q.id = r.id
  verify : ∀ v ∈ k.verify.queue, ∀ c, v.state = .running → v.chan = some c → (k.chan c).mode = .verify ∧ ∀ w ∈ k.verify.queue, w.state = .running → w.set = v.set
  suspended : ∀ c x, k.session c = some x → (k.chan c).mode = .restore → x.state = .suspended
  waiting : ∀ c x, k.session c = some x → (k.chan c).mode = .verify → (k.chan c).claim = some .session
  idle : ∀ c, (k.chan c).mode = .idle → k.session c = none
  drain : ∀ c, (k.chan c).drain ≠ none → k.restoreOn c = none ∧ k.verifyOn c = none
    ∧ ∀ x, k.session c = some x → x.state = .suspended ∨ (k.chan c).claim = some .session
  recovery : ∀ r, k.store.recovery = some r → (k.chan r.chan).mode = .idle ∧ (k.chan r.chan).claim = some .recovery ∧ (k.chan r.chan).drain = none
  orders : ∀ c o, (k.tr c).order = some o → o.task.ofSession = true → (k.chan c).mode = .write
    ∧ ∀ x, k.session c = some x → x.state ≠ .opening ∧ x.state ≠ .needCartridge ∧ x.state ≠ .suspended
  loads : ∀ o ∈ k.picker.queue ++ k.picker.held, ∀ c, o.kind = .load → o.raisedBy = some (.chan c) → o.dest = .element (.transport c) ∧ (k.chan c).mode = .write
    ∧ (∀ q, (k.tr c).order = some q → q.task.ofSession = false) ∧ ∃ x, k.session c = some x ∧ (x.state = .loading ∨ x.state = .spanning ∨ x.state = .resuming ∨ x.state = .aborting)
  once : ∀ c, ((k.picker.queue ++ k.picker.held).filter fun o => o.kind = .load ∧ o.raisedBy = some (.chan c)).length ≤ 1

/-- The LOAD that an activity raises, as it stands in the queue (R28). -/
def activityLoad (id : Nat) (p : Requester) (by' : Raiser) (src : Element) (c : Chan) (purpose : Purpose) (l : Label) : Order :=
  { id := id, requester := some p, internal := true, raisedBy := some by', kind := .load, source := .element src, dest := .element (.transport c),
    purpose := purpose, wanted := some l, state := .ready, retry := 0, role := .plain, unloadAfter := false }

/-- The law of index points (R67), for a set of which `n` blocks have been written: the points are the multiples of the interval below `n`, at most 64 of them. -/
def IndexLaw (r : SetRec) (n : Nat) : Prop :=
  0 < r.interval ∧ r.index.length ≤ 64 ∧ r.index.map (·.block) = (List.range ((n + r.interval - 1) / r.interval)).map (· * r.interval)

/-- The law of the library's elements (R1): a label stands in the entry of one element that is not UNCERTAIN, an EMPTY element has no entry, and a FULL one has one. -/
structure ElementLaw (k : Ctl) : Prop where
  labels : ∀ e f l, e ≠ f → (k.elem e).occ ≠ .uncertain → (k.elem f).occ ≠ .uncertain → k.labelAt e = some l → k.labelAt f ≠ some l
  empty : ∀ e, (k.elem e).occ = .empty → (k.elem e).entry = none
  full : ∀ e, (k.elem e).occ = .full → (k.elem e).entry ≠ none

/-- The commands that may change a setting: those that set one, the key switch, the sensor's, the flash's at the end of a RELOAD, and the resets. -/
def setsStanding : Instr → Bool
  | .powerUp .. | .setProtect .. | .keySwitchChange .. | .setWatch .. | .setClimateInterval .. | .setAcclimation .. | .sampleIntervalExpiry | .sensorAnswer ..
  | .sensorNoAnswer | .writeDictionary .. | .setVerifyPolicy .. | .setAutoCheckpoint .. | .imageReadDone .. | .flashErrorReport | .flashTimerExpiry
  | .libraryReset .. | .reload .. => true
  | _ => false

/-- The commands that may change what the picker is doing: the order it starts, its own reports, RESUME_PICKER, a door that opens, the minute timer, which counts for the cartridge
it is looking for too, and the resets. -/
def movesPicker : Instr → Bool
  | .powerUp .. | .resumePicker .. | .orderStart | .fetchDone .. | .fetchEmpty | .putDone | .readDone .. | .homeDone .. | .gripFault | .pathBlocked
  | .commandTimerExpiry | .doorSwitchOpen .. | .minuteTimerExpiry | .libraryReset .. | .reload .. => true
  | _ => false

/-- Commands of the channels, the units behind them, the store and the frames of the ports, which leave the Inventory Table as it is. -/
def leavesElements : Instr → Bool
  | .requestFrame .. | .badRequest .. | .readInventory .. | .move .. | .load .. | .unload .. | .resumePicker .. | .readQueue .. | .setWatch .. | .setClimateInterval ..
  | .setAcclimation .. | .readClimate .. | .readCartridge .. | .readSet .. | .listSets .. | .expireSet .. | .setRetention .. | .reclaim .. | .forgetCartridge ..
  | .writeDictionary .. | .readDictionary .. | .openSet .. | .sync .. | .closeSet .. | .abortSet .. | .verifySet .. | .cancelVerify .. | .setVerifyPolicy ..
  | .readVerify .. | .restore .. | .cancelRestore .. | .checkpoint .. | .setAutoCheckpoint .. | .readStore .. | .recoverCartridge .. | .dataOut ..
  | .creditFrameReceived .. | .damagedFrame .. | .frameSent .. | .panelRead .. | .ejected .. | .positioned .. | .blockRead .. | .blockUnreadable .. | .endOfData ..
  | .blockWritten .. | .endOfMedia .. | .transportFault .. | .transportOrderTimerExpiry .. | .coderResult .. | .expanderReport .. | .bankCodingStart .. | .creditGrant ..
  | .syncComplete .. | .summaryBlockWrite .. | .suspensionComplete .. | .verifyEntryStart | .restorePlacement | .sampleIntervalExpiry | .sensorAnswer ..
  | .sensorNoAnswer | .needCartridgeTimerExpiry .. | .stallTimerExpiry .. | .flashEraseDone | .flashProgramDone .. | .commitMarkDone => true
  | _ => false

end Sys2Proof.Machine
end

