-- ==== Sys2Proof/Certificates/Slice0/Obligations.lean ====
section
/-! DEFINITION. The statements for the provers. -/

open Sys2Proof Sys2Proof.Machine

/-! ## The queue of commands, and the ports (chapter 11) -/

/-- The oldest waiting command takes effect, with the rest of the queue left waiting. -/
def Obligations.StepRunsFront : Prop :=
  ∀ (c : Instr) (rest : List Instr) (k : Ctl), step { ctl := k, pending := c :: rest } = exec c { ctl := k, pending := rest }

/-- With no command waiting, one second passes for the ages of the last readings, and nothing else (the model's choice, assumption 3). -/
def Obligations.EmptyQueueAges : Prop :=
  ∀ k : Ctl, step { ctl := k, pending := [] } = .next { pending := [], ctl := { k with climate := { k.climate with
    lastTemperature := k.climate.lastTemperature.map fun r => { r with age := r.age + 1 }
    lastHumidity := k.climate.lastHumidity.map fun r => { r with age := r.age + 1 } } } }

/-- Every command takes effect on the controller alone: it answers a next state with the same waiting commands, and what it does does not depend on them. -/
def Obligations.CommandsLeaveQueue : Prop :=
  ∀ (i : Instr) (k : Ctl), ∃ t : Ctl, ∀ rest : List Instr, exec i { ctl := k, pending := rest } = .next { ctl := t, pending := rest }

/-- R181: a request from the panel outside its list, and one of the four that no link may send, is answered NOT_PERMITTED at the head of its queue, whatever else holds,
and nothing else happens. The model's choice (assumptions 9 and 51, DEDUCED): a request command whose request does not stand at the head of its port's queue, whose link
is OFFLINE, or whose link has 8 answers not yet sent, changes nothing. R176: a head request whose code is not in the table, or whose arguments are shorter or longer than
it needs, is answered BAD_REQUEST. The codes of the table are 1 to 46. The arguments of a well-formed request with any bytes left off at their end are too short, and with
any bytes added too long; only WRITE_DICTIONARY takes its bytes to the end of the body, and needs its slot. -/
def Obligations.RequestsJudgedAtHead : Prop :=
  (∀ (s : State) (i : Instr) (p : Requester) (r : Req) (q : QueuedReq), i.request? = some (p, r) → AtHead s p q r → Answered s.ctl →
      (match p with
        | .panel => r.code ∉ panelCodes
        | .link _ => r.code ∈ [19, 27, 43, 46]) →
      exec i s = .next (s.withCtl (s.ctl.afterAnswer p q .notPermitted)))
  ∧ (∀ (s : State) (i : Instr) (p : Requester) (r : Req), i.request? = some (p, r) → (∀ q, ¬AtHead s p q r) → Answered s.ctl → exec i s = .next s)
  ∧ ((∀ (s : State) (p : Requester) (q : QueuedReq), s.ctl.headRequest p = some q → Req.decode q.code q.args = none →
        exec (.badRequest p) s = .next (s.withCtl (s.ctl.afterAnswer p q .badRequest)))
      ∧ ∀ (code : Nat) (args : List Byte), code = 0 ∨ 46 < code → Req.decode code args = none)
  ∧ (∀ (r : Req) (b : Byte) (more : List Byte) (n : Nat), r.wf = true → (∀ slot bs, r ≠ .writeDictionary slot bs) →
      Req.decode r.code (r.args ++ b :: more) = none ∧ (n < r.args.length → Req.decode r.code (r.args.take n) = none))
  ∧ Req.decode 28 [] = none

/-- R176: a REQUEST frame on an ONLINE link joins the queue's tail while one of 8 places is free, and is else answered QUEUE_FULL at once with its tag, not queued. The
model's choice (assumption 9, DEDUCED): on an OFFLINE link nothing arrives. R176, R180: a REQUEST frame on the panel port takes one of 2 places, which unread responses keep taken; when both are taken its
QUEUE_FULL answer replaces what the refusal slot held. -/
def Obligations.RequestsArrive : Prop :=
  (∀ (s : State) (l : Link) (tag code : Nat) (args : List Byte),
      exec (.requestFrame (.link l) tag code args) s = .next (s.withCtl
        (if (s.ctl.link l).online = false then s.ctl
         else if (s.ctl.link l).requests.length < 8 then
           s.ctl.setLink l { s.ctl.link l with requests := (s.ctl.link l).requests ++ [{ tag := tag, code := code, args := args }] }
         else s.ctl.setLink l ((s.ctl.link l).pushResponse { tag := tag, code := .queueFull, result := .none, atPort := true }))))
  ∧ (∀ (s : State) (tag code : Nat) (args : List Byte),
      exec (.requestFrame .panel tag code args) s = .next (s.withCtl
        (if s.ctl.panel.requests.length + s.ctl.panel.responses.length < 2 then
           { s.ctl with panel := { s.ctl.panel with requests := s.ctl.panel.requests ++ [{ tag := tag, code := code, args := args }] } }
         else { s.ctl with panel := { s.ctl.panel with refusal := some { tag := tag, code := .queueFull, result := .none, atPort := true } } })))

/-- A response joins its link behind the responses not yet sent, or is sent at once by an idle transmitter of an ONLINE link with nothing before it; the request's place
is freed and no other block sees it. -/
def Obligations.AnswerJoinsLink : Prop :=
  ∀ (k : Ctl) (l : Link) (q : QueuedReq) (code : Code) (r : Result),
    let t := k.afterAnswer (.link l) q code r
    let a : Response := { tag := q.tag, code := code, result := r }
    SameInside k t ∧ t.panel = k.panel ∧ t.link l.other = k.link l.other ∧ (t.link l).requests = (k.link l).requests.tail
      ∧ (if (k.link l).online = true ∧ (k.link l).tx = none ∧ (k.link l).creditFrames = [] then
           (t.link l).responses = ((k.link l).responses ++ [a]).tail ∧ (t.link l).tx = ((k.link l).responses ++ [a]).head?.map .response
         else (t.link l).responses = (k.link l).responses ++ [a])

/-- R177: a frame has been sent. What the transmitter of an ONLINE link sends next is a CREDIT frame, else the oldest response, else the oldest notice, which takes the
overflow mark along, else a DATA_IN frame: of the two channels' ready ones that of the channel whose frame was not the last. One that was cut off by a loss of lock goes
before them, and the mark is settled when the sending of the notice begins: both are the model's choice (assumptions 26, DEDUCED, and 88). A frame that is no DATA_IN, or
is one of no running restore, touches no other block. R180: a panel read returns the oldest unread response, else the refusal, else the oldest notice with the overflow
flag, else an empty NOTICE. Read whole, the frame leaves its list; read in part, it stays. Bytes read past the end of the frame are 0xFF; the empty NOTICE has code 0 and
no fields. How the results and fields of the other frames are laid out is the model's choice (assumption 53). -/
def Obligations.FramesSentAndRead : Prop :=
  (∀ (s : State) (l : Link) (f : TxFrame), (s.ctl.link l).online = true → (s.ctl.link l).tx = some f → (∀ d, f = .data d → s.ctl.restoreOn d.chan = none) → Answered s.ctl →
      ∃ t, exec (.frameSent l) s = .next (s.withCtl t) ∧ SameInside s.ctl t ∧ t.panel = s.ctl.panel ∧ t.link l.other = s.ctl.link l.other
        ∧ (∀ c n rest, (s.ctl.link l).creditFrames = (c, n) :: rest →
            t.link l = { s.ctl.link l with creditFrames := rest, tx := some (.credit c n) })
        ∧ (∀ r rest, (s.ctl.link l).creditFrames = [] → (s.ctl.link l).responses = r :: rest →
            t.link l = { s.ctl.link l with responses := rest, tx := some (.response r) })
        ∧ (∀ n rest, (s.ctl.link l).creditFrames = [] → (s.ctl.link l).responses = [] → (s.ctl.link l).notices = n :: rest →
            t.link l = { s.ctl.link l with notices := rest, overflow := false, tx := some (.notice n (s.ctl.link l).overflow) })
        ∧ ((s.ctl.link l).creditFrames = [] → (s.ctl.link l).responses = [] → (s.ctl.link l).notices = [] →
            let p := s.ctl.link l
            (∀ d, p.cut = some d → t.link l = { p with cut := none, lastData := d.chan, tx := some (.data d) })
            ∧ (∀ d, p.cut = none → p.data.get p.lastData.other = some d →
                t.link l = { p with data := p.data.set p.lastData.other none, lastData := p.lastData.other, tx := some (.data d) })
            ∧ (∀ d, p.cut = none → p.data.get p.lastData.other = none → p.data.get p.lastData = some d →
                t.link l = { p with data := p.data.set p.lastData none, tx := some (.data d) })
            ∧ (p.cut = none → p.data = ⟨none, none⟩ → t.link l = { p with tx := none })))
  ∧ (∀ (s : State) (whole : Bool), ∃ t : PanelPort, exec (.panelRead whole) s = .next (s.withCtl { s.ctl with panel := t })
      ∧ (∀ r rest, s.ctl.panel.responses = r :: rest →
          t = { s.ctl.panel with lastRead := some (.response r), responses := if whole then rest else r :: rest })
      ∧ (∀ r, s.ctl.panel.responses = [] → s.ctl.panel.refusal = some r →
          t = { s.ctl.panel with lastRead := some (.response r), refusal := if whole then none else some r })
      ∧ (∀ n rest, s.ctl.panel.responses = [] → s.ctl.panel.refusal = none → s.ctl.panel.notices = n :: rest →
          t = { s.ctl.panel with lastRead := some (.notice n s.ctl.panel.overflow), notices := if whole then rest else n :: rest,
                                 overflow := if whole then false else s.ctl.panel.overflow })
      ∧ (s.ctl.panel.responses = [] → s.ctl.panel.refusal = none → s.ctl.panel.notices = [] →
          t = { s.ctl.panel with lastRead := some .emptyNotice }))
  ∧ (∀ (f : PanelFrame) (n : Nat), (f.readBytes n).length = n ∧ ∀ i, i < n → (f.readBytes n)[i]? = some ((f.bytes[i]?).getD 0xFF#8))
  ∧ PanelFrame.bytes .emptyNotice = frameBytes 3 [0x00#8, 0x00#8]

/-! ## Elements, doors and the mail slot (chapter 1) -/

/-- R5: RESERVE and RELEASE from a link, and NOT_PERMITTED to the panel. A released element may be what a session in NEED_CARTRIDGE waits for, so the sessions choose
again at a RELEASE (R113); that they do so also at one that found the reservation NONE is the model's choice (assumption 31, DEDUCED). -/
def Obligations.ReserveAndRelease : Prop :=
  ∀ (s : State) (p : Requester) (q : QueuedReq) (n : Nat),
    (AtHead s p q (.reserve n) → exec (.reserve p n) s = .next (s.withCtl
      (match p, Element.ofId n with
        | .panel, _ => s.ctl.afterAnswer p q .notPermitted
        | _, none => s.ctl.afterAnswer p q .badArgument
        | _, some .gripper => s.ctl.afterAnswer p q .badArgument
        | _, some e =>
          match (s.ctl.elem e).reserved with
          | none => (s.ctl.afterAnswer p q .ok).setElem e { s.ctl.elem e with reserved := some p }
          | some o => if o = p then s.ctl.afterAnswer p q .ok else s.ctl.afterAnswer p q .reserved)))
    ∧ (AtHead s p q (.release n) → exec (.release p n) s = .next (s.withCtl
      (match p, Element.ofId n with
        | .panel, _ => s.ctl.afterAnswer p q .notPermitted
        | _, none => s.ctl.afterAnswer p q .badArgument
        | _, some e =>
          match (s.ctl.elem e).reserved with
          | none => (s.ctl.afterAnswer p q .ok).rechooseAll
          | some o =>
            if o = p then ((s.ctl.afterAnswer p q .ok).setElem e { s.ctl.elem e with reserved := none }).rechooseAll
            else s.ctl.afterAnswer p q .notOwner)))

/-- R7: SET_PROTECT is refused with the key in LOCK, and for a direction or size index outside its list; otherwise the code is replaced, the change is reported to the
store, and sessions in NEED_CARTRIDGE choose again. The code protects the slots of R7's table. R9: the last position the key switch reported is held, and nothing else
changes. Choosing again (R113) touches the sessions, the Move Queue, the transports an unload ejects, and the links; it is nothing at all while no session waits in
NEED_CARTRIDGE. -/
def Obligations.ProtectAndKey : Prop :=
  ((∀ (s : State) (p : Requester) (q : QueuedReq) (d n : Nat), AtHead s p q (.setProtect d n) →
      exec (.setProtect p d n) s = .next (s.withCtl
        (if s.ctl.inv.key = .lock then s.ctl.afterAnswer p q .keyLocked
         else if 1 < d ∨ 8 < n then s.ctl.afterAnswer p q .badArgument
         else
           { s.ctl.afterAnswer p q .ok with
             inv := { s.ctl.inv with protect := { dir := if d = 0 then .bottom else .top, idx := n } }
             store := s.ctl.store.noteChange }.rechooseAll)))
      ∧ (∀ st : Store, st.state = .clean → st.noteChange = { st with state := .dirty })
      ∧ ∀ (n : Fin 9) (i : Fin 24), ((Protect.mk .bottom n).covers i = true ↔ i.val < [0, 1, 2, 4, 8, 12, 16, 20, 24][n.val]!)
          ∧ ((Protect.mk .top n).covers i = true ↔ 24 - [0, 1, 2, 4, 8, 12, 16, 20, 24][n.val]! ≤ i.val))
  ∧ (∀ (s : State) (k : Key), exec (.keySwitchChange k) s = .next (s.withCtl { s.ctl with inv := { s.ctl.inv with key := k } }))
  ∧ (∀ k : Ctl, k.rechooseAll.inv = k.inv ∧ k.rechooseAll.standing = k.standing ∧ k.rechooseAll.cat = k.cat ∧ k.rechooseAll.verify = k.verify
      ∧ k.rechooseAll.restore = k.restore ∧ k.rechooseAll.store = k.store
      ∧ ((∀ c x, k.session c = some x → x.state ≠ .needCartridge) → k.rechooseAll = k))

/-- R11: an OPEN_DOOR that no condition refuses puts the door into ASKING, with the requester's mark and an offline link's granted and the ask timer running; it unlocks
at once when both marks are granted and no RUNNING order touches the magazine, and every link not granted is asked. -/
def Obligations.OpenDoorAsks : Prop :=
  ∀ (s : State) (p : Requester) (q : QueuedReq) (n : Nat), AtHead s p q (.openDoor n) →
    (1 < n → exec (.openDoor p n) s = .next (s.withCtl (s.ctl.afterAnswer p q .badArgument)))
    ∧ ∀ m : Mag, magOf n = some m →
      let protectedMag := ∃ i : Fin 24, (Element.slot i).mag = some m ∧ s.ctl.inv.protect.covers i = true
      let mark : Link → Bool := fun l => decide (p = .link l) || !(s.ctl.link l).online
      let clear := ∀ o, s.ctl.picker.running = some o → s.ctl.touches o m = false
      (s.ctl.inv.key = .lock ∧ protectedMag → exec (.openDoor p n) s = .next (s.withCtl (s.ctl.afterAnswer p q .keyLocked)))
      ∧ (¬(s.ctl.inv.key = .lock ∧ protectedMag) → (s.ctl.door m).state ≠ .locked →
          exec (.openDoor p n) s = .next (s.withCtl (s.ctl.afterAnswer p q .wrongState)))
      ∧ (¬(s.ctl.inv.key = .lock ∧ protectedMag) → (s.ctl.door m).state = .locked → mark .a = true → mark .b = true → clear →
          exec (.openDoor p n) s = .next (s.withCtl (((s.ctl.afterAnswer p q .accepted).setDoor m
            { state := .unlocked, requester := some p, granted := ⟨true, true⟩, asked := ⟨false, false⟩, askTimer := false, openTimer := true }).notifyAll
              (.door m .unlocked .ok))))
      ∧ (¬(s.ctl.inv.key = .lock ∧ protectedMag) → (s.ctl.door m).state = .locked → ¬(mark .a = true ∧ mark .b = true ∧ clear) →
          exec (.openDoor p n) s = .next (s.withCtl (((s.ctl.afterAnswer p q .accepted).setDoor m
            { state := .asking, requester := some p, granted := ⟨mark .a, mark .b⟩, asked := ⟨!mark .a, !mark .b⟩, askTimer := true, openTimer := false }).notifyAsked
              ⟨!mark .a, !mark .b⟩ (.quiesceAsk m))))

/-- R12, R14: GRANT_QUIESCE marks its link while the door is ASKING, and the door unlocks when every mark is granted or its link offline and no RUNNING order touches
the magazine; so does DOOR_UNLOCK, which changes nothing while the condition fails. The law of the door, over every command: a door that a command has made UNLOCKED has
every link granted or offline, and no RUNNING order touches its magazine. -/
def Obligations.DoorUnlocks : Prop :=
  (∀ (s : State) (m : Mag),
    let unlocks : Ctl → Prop := fun k => (k.door m).state = .asking ∧ (∀ l, (k.door m).granted.get l = true ∨ (k.link l).online = false)
      ∧ ∀ o, k.picker.running = some o → k.touches o m = false
    let unlocked : Ctl → Ctl := fun k =>
      (k.setDoor m { k.door m with state := .unlocked, askTimer := false, openTimer := true }).notifyAll (.door m .unlocked .ok)
    (unlocks s.ctl → exec (.doorUnlock m) s = .next (s.withCtl (unlocked s.ctl)))
    ∧ (¬unlocks s.ctl → exec (.doorUnlock m) s = .next s)
    ∧ ∀ (l : Link) (q : QueuedReq) (n : Nat), magOf n = some m → AtHead s (.link l) q (.grantQuiesce n) →
        let k := s.ctl.afterAnswer (.link l) q .ok
        let k1 := k.setDoor m { s.ctl.door m with granted := (s.ctl.door m).granted.set l true }
        ((s.ctl.door m).state ≠ .asking → exec (.grantQuiesce (.link l) n) s = .next (s.withCtl (s.ctl.afterAnswer (.link l) q .wrongState)))
        ∧ ((s.ctl.door m).state = .asking → unlocks k1 → exec (.grantQuiesce (.link l) n) s = .next (s.withCtl (unlocked k1)))
        ∧ ((s.ctl.door m).state = .asking → ¬unlocks k1 → exec (.grantQuiesce (.link l) n) s = .next (s.withCtl k1)))
  ∧ ∀ (i : Instr) (s t : State) (m : Mag), exec i s = .next t → (s.ctl.door m).state ≠ .unlocked → (t.ctl.door m).state = .unlocked →
      (∀ l, (t.ctl.door m).granted.get l = true ∨ (t.ctl.link l).online = false)
        ∧ ∀ o, t.ctl.picker.running = some o → t.ctl.touches o m = false

/-- R11, R12, R14: a withdrawal or the ask timer ends an ASKING door's request: the door is LOCKED as at reset, the requester and the links that were asked are told
DOOR_REFUSED, and the rest of the inventory stays. The open timer locks an UNLOCKED door again with no audit, and every requester is told TIMEOUT. In any other door
state each of the three changes nothing but, for the withdrawal, its answer. R15, R16: a door switch that reports OPEN makes the door OPEN, with no request and no
timer, and every slot of its magazine UNCERTAIN with its entry kept; from LOCKED or ASKING every requester is told, and nothing else changes but an AUDIT the door was
in. A report of CLOSED at an OPEN door puts it into AUDIT and raises the AUDIT of its magazine, which is lost
where 8 orders are queued and 32 held already (the model's choice, assumption 45). Other reports change nothing. -/
def Obligations.DoorsOpenAndEnd : Prop :=
  (∀ (s : State) (m : Mag),
      let locked : Ctl → Ctl := fun k => ((k.setDoor m .initial).rechooseAll).judgeWaiting
      let refused : Ctl → Ctl := fun k =>
        ((locked k).notifyOpt (k.door m).requester (.door m .locked .doorRefused)).notifyAsked
          (match (k.door m).requester with
            | some (.link l) => (k.door m).asked.set l false
            | _ => (k.door m).asked) (.door m .locked .doorRefused)
      (∀ k : Ctl, (locked k).inv = { k.inv with doors := k.inv.doors.set m .initial } ∧ (locked k).standing = k.standing
        ∧ (locked k).commandEnd.inv = (locked k).inv)
      ∧ (∀ k : Ctl, Answered k → k.commandEnd = k)
      ∧ ((s.ctl.door m).state = .asking → (s.ctl.door m).askTimer = true → exec (.askTimerExpiry m) s = .next (s.withCtl (refused s.ctl).commandEnd))
      ∧ ((s.ctl.door m).state ≠ .asking → Answered s.ctl → exec (.askTimerExpiry m) s = .next s)
      ∧ ((s.ctl.door m).state = .unlocked → (s.ctl.door m).openTimer = true →
          exec (.doorOpenTimerExpiry m) s = .next (s.withCtl ((locked s.ctl).notifyAll (.door m .locked .timeout)).commandEnd))
      ∧ ((s.ctl.door m).state ≠ .unlocked → Answered s.ctl → exec (.doorOpenTimerExpiry m) s = .next s)
      ∧ ∀ (l : Link) (q : QueuedReq) (n : Nat), magOf n = some m → AtHead s (.link l) q (.withdrawQuiesce n) →
          exec (.withdrawQuiesce (.link l) n) s = .next (s.withCtl
            (if (s.ctl.door m).state = .asking then refused (s.ctl.afterAnswer (.link l) q .ok) else s.ctl.afterAnswer (.link l) q .ok).commandEnd))
  ∧ (∀ (s : State) (m : Mag),
      ((s.ctl.door m).state ≠ .opened → ∃ t, exec (.doorSwitchOpen m) s = .next (s.withCtl t)
        ∧ t.inv.doors = s.ctl.inv.doors.set m { Door.initial with state := .opened }
        ∧ (∀ e : Element, t.elem e = if e.mag = some m then { s.ctl.elem e with occ := .uncertain } else s.ctl.elem e)
        ∧ t.inv.mail = s.ctl.inv.mail ∧ t.standing = s.ctl.standing
        ∧ ((s.ctl.door m).state ≠ .audit → SameOutside s.ctl t)
        ∧ ((s.ctl.door m).state = .unlocked → t.links = s.ctl.links ∧ t.panel = s.ctl.panel)
        ∧ ((s.ctl.door m).state = .locked ∨ (s.ctl.door m).state = .asking →
            t.links = (s.ctl.notifyAll (.door m .opened .ok)).links ∧ t.panel = (s.ctl.notifyAll (.door m .opened .ok)).panel))
      ∧ ((s.ctl.door m).state = .opened → exec (.doorSwitchOpen m) s = .next s)
      ∧ ((s.ctl.door m).state ≠ .opened → exec (.doorSwitchClosed m) s = .next s)
      ∧ ((s.ctl.door m).state = .opened → ∃ t, exec (.doorSwitchClosed m) s = .next (s.withCtl t)
          ∧ Raised (s.ctl.setDoor m { Door.initial with state := .audit }) t fun id => auditOrder id (.magazine m) .plain))

/-- R19, R20, R21, R22: the mail slot's switch and its open timer. An OPEN report stops the timer, or in LOCKED is a forced opening, and leaves M UNCERTAIN with its
entry. A CLOSED report locks the mail slot and raises the import's move, the scan after an export, or the audit after a forced opening; where an import or an export has
opened the slot meanwhile and still waits for OPEN, it stays open, and M is audited all the same. The timer's expiry before the switch has opened locks the mail slot,
takes back the reservation the import made where it is still its requester's, and tells the requester TIMEOUT. R22: the scan of M after an export is read, here with
nobody waiting for a cartridge. No cartridge leaves M EMPTY, the exported label, read as a label, leaves M FULL with its entry and MAIL_SLOT(EXPORT, ELEMENT_FULL), and
any other cartridge is a newly found one in M; but for the exported label, its record is OUTSIDE and the notice says OK. So is an audit of M after a forced opening, but
that it tells nobody, and keeps the entry where the label read is its own or is unreadable. R20: the READ of M in place of an import's FETCH finds a cartridge, whose
label may be unreadable: it is newly found in M, NO_SLOT goes to every requester, the order leaves the queue with ELEMENT_FULL, and the import's reservation returns to
NONE. The model's choices: an order is lost at 8 queued and 32 held (assumption 45), a reservation that its requester holds is taken back whoever made it (assumption 57,
DEDUCED), what a forced opening that an import or export overtakes leaves (assumption 65, DEDUCED), that an unreadable label counts as another one than the exported
(assumption 24, DEDUCED), that the import's requester gets MOVE_FAILED besides its MAIL_SLOT (assumption 15, DEDUCED), that the audit of M that finds no cartridge changes
no record (assumption 66), and that an import whose READ of M reports no cartridge ends with NO_CARTRIDGE, M EMPTY and no NO_SLOT (assumption 76). -/
def Obligations.MailSlotEvents : Prop :=
  ∀ s : State,
    let w := s.ctl.inv.mail
    let uncertain : Ctl → Ctl := fun k => k.setElem .mail { s.ctl.elem .mail with occ := .uncertain }
    let relocked := s.ctl.setMail { MailSlot.initial with forced := w.forced }
    exec .mailSwitchOpen s = .next (s.withCtl (uncertain (s.ctl.setMail
      (if w.state = .locked then { w with forced := true } else { w with timer := false, switchOpen := true }))))
    ∧ (w.state = .locked ∨ w.switchOpen = false → w.forced = true → ∃ t, exec .mailSwitchClosed s = .next (s.withCtl t)
        ∧ Raised (s.ctl.setMail { w with forced := false }) t fun id => auditOrder id (.element .mail) .plain)
    ∧ (w.state = .openImport → w.switchOpen = true → ∃ t, exec .mailSwitchClosed s = .next (s.withCtl t)
        ∧ Raised (s.ctl.setMail .initial) t fun id => mailMove id w.requester .mail
            (match w.dest with
              | some i => .element (.slot i)
              | none => .any) none (.importMove w.reservedSlot))
    ∧ (∀ p l, w.state = .openExport → w.switchOpen = true → w.requester = some p → w.label = some l → ∃ t, exec .mailSwitchClosed s = .next (s.withCtl t)
        ∧ Raised (s.ctl.setMail .initial) t fun id => auditOrder id (.element .mail) (.exportScan p l))
    ∧ (w.state = .locked ∨ w.switchOpen = false → w.forced = false → exec .mailSwitchClosed s = .next s)
    ∧ (w.state = .openImport → w.timer = true → w.switchOpen = false → exec .mailOpenTimerExpiry s = .next (s.withCtl
        ((match w.reservedSlot with
          | some i =>
            if (s.ctl.elem (.slot i)).reserved = w.requester then relocked.setElem (.slot i) { s.ctl.elem (.slot i) with reserved := none }
            else relocked
          | none => relocked).notifyOpt w.requester (.mailSlot .imported .timeout none))))
    ∧ (w.state = .openExport → w.timer = true → w.switchOpen = false → exec .mailOpenTimerExpiry s = .next (s.withCtl
        (relocked.notifyOpt w.requester (.mailSlot .exported .timeout w.label))))
    ∧ (w.timer = false → exec .mailOpenTimerExpiry s = .next s)
    ∧ (∀ (o : Order) (r : ReadReport), s.ctl.picker.cmd = some (.read .mail) → s.ctl.picker.running = some o → Answered s.ctl → LeavesQuietly s.ctl →
      let k := s.ctl
      let newlyFound : Label → ElementRec := fun l => { k.elem .mail with occ := .full, entry := some { label := some l, home := none, acclim := k.climate.acclimation, tab := .unknown } }
      let apart : Label → Prop := fun l => k.standsElsewhere l .mail = false
      let atMail : Catalog → Label → Prop := fun cat l => cat.cart? l = match k.cat.cart? l with
        | some c => some { c with loc := some .mail }
        | none => if k.cat.carts.length < 64 then some (Cart.fresh l (some .mail)) else none
      let ended : Ctl → Prop := fun t => t.picker.queue = (k.picker.queue.filter fun x => x.id ≠ o.id)
        ∧ t.motion = { k.motion with state := .idle, cmd := none, phase := .idle } ∧ t.standing = k.standing ∧ t.inv.mail = w ∧ t.inv.doors = k.inv.doors
      (∀ p l, k.picker.phase = .scanning [.mail] → o.kind = .audit → o.source = .element .mail → o.role = .exportScan p l → NobodyWaits k none →
        ∃ t, exec (.readDone r) s = .next (s.withCtl t) ∧ ended t ∧ (∀ e, e ≠ .mail → t.elem e = k.elem e)
          ∧ (validRead r ≠ some l → (∀ l', validRead r = some l' → apart l') →
              t.links = (k.notify p (.mailSlot .exported .ok (some l))).links ∧ t.panel = (k.notify p (.mailSlot .exported .ok (some l))).panel)
          ∧ (r = .noCartridge → t.elem .mail = { k.elem .mail with occ := .empty, entry := none } ∧ t.cat = k.cat.modCart l fun c => { c with loc := none })
          ∧ (validRead r = some l → k.labelAt .mail = some l → apart l →
              t.elem .mail = { k.elem .mail with occ := .full } ∧ t.cat = (k.cat.modCart l fun c => { c with loc := some .mail })
              ∧ t.links = (k.notify p (.mailSlot .exported .elementFull (some l))).links ∧ t.panel = (k.notify p (.mailSlot .exported .elementFull (some l))).panel)
          ∧ (∀ l', validRead r = some l' → l' ≠ l → apart l' →
              t.elem .mail = newlyFound l' ∧ atMail t.cat l' ∧ t.cat.cart? l = (k.cat.cart? l).map fun c => { c with loc := none })
          ∧ (r ≠ .noCartridge → validRead r = none → apart (0x3F#8 :: Element.mail.name) →
              t.elem .mail = newlyFound (0x3F#8 :: Element.mail.name) ∧ t.cat = k.cat.modCart l fun c => { c with loc := none }))
      ∧ (k.picker.phase = .scanning [.mail] → o.kind = .audit → o.source = .element .mail → o.role = .plain → NobodyWaits k none →
        (∀ l, validRead r = some l ∨ k.labelAt .mail = some l → apart l) → apart (0x3F#8 :: Element.mail.name) →
        ∃ t, exec (.readDone r) s = .next (s.withCtl t) ∧ ended t ∧ (∀ e, e ≠ .mail → t.elem e = k.elem e) ∧ t.links = k.links ∧ t.panel = k.panel
          ∧ (r = .noCartridge → t.elem .mail = { k.elem .mail with occ := .empty, entry := none } ∧ t.cat = k.cat)
          ∧ (∀ l, r ≠ .noCartridge → k.labelAt .mail = some l → validRead r = some l ∨ validRead r = none →
              t.elem .mail = { k.elem .mail with occ := .full } ∧ t.cat = k.cat.modCart l fun c => { c with loc := some .mail })
          ∧ (∀ l, validRead r = some l → k.labelAt .mail ≠ some l → t.elem .mail = newlyFound l ∧ atMail t.cat l)
          ∧ (r ≠ .noCartridge → validRead r = none → k.labelAt .mail = none → t.elem .mail = newlyFound (0x3F#8 :: Element.mail.name) ∧ t.cat = k.cat))
      ∧ ∀ slot, k.picker.phase = .importRead → o.kind = .move → o.role = .importMove slot →
        let freed : Element → Option Requester := fun e => match slot with
          | some i => if e = .slot i ∧ (k.elem (.slot i)).reserved = o.requester then none else (k.elem e).reserved
          | none => (k.elem e).reserved
        let told : Ctl → Ctl → Code → Option Label → Prop := fun t k' reason l =>
          let k'' := (k'.notifyOpt o.requester (.moveFailed o.id reason)).notifyOpt o.requester (.mailSlot .imported reason l)
          t.links = k''.links ∧ t.panel = k''.panel
        ∃ t, exec (.readDone r) s = .next (s.withCtl t) ∧ ended t ∧ (∀ e, e ≠ .mail → t.elem e = { k.elem e with reserved := freed e })
          ∧ (∀ l', validRead r = some l' → apart l' → t.elem .mail = newlyFound l' ∧ atMail t.cat l'
              ∧ (∀ l, k.labelAt .mail = some l → l ≠ l' → t.cat.cart? l = (k.cat.cart? l).map fun c => { c with loc := none })
              ∧ told t (k.notifyAll (.noSlot (some l') .mail)) .elementFull (some l'))
          ∧ (r ≠ .noCartridge → validRead r = none → apart (0x3F#8 :: Element.mail.name) →
              let l' : Label := 0x3F#8 :: Element.mail.name
              t.elem .mail = newlyFound l' ∧ (∀ l, t.cat.cart? l = if k.labelAt .mail = some l then (k.cat.cart? l).map fun c => { c with loc := none } else k.cat.cart? l)
              ∧ told t (k.notifyAll (.noSlot (some l') .mail)) .elementFull (some l'))
          ∧ (r = .noCartridge → t.elem .mail = { k.elem .mail with occ := .empty, entry := none } ∧ t.cat = k.cat ∧ told t k .noCartridge none))

/-- R19: an IMPORT that passes its table opens the mail slot for the requester with the timer running, and reserves a named slot that no one has reserved. The first
condition that holds gives the other answers, with no change; DEDUCED from R6, M's own reservation is judged with the slot's (assumption 12). R21: an EXPORT of a
cartridge that passes its table raises the move to M for the requester, or opens the mail slot at once for a cartridge already in M. The first condition that holds
gives the other answers, with no change. The model's choice: the move is lost where 8 orders are queued and 32 held already (assumption 45). -/
def Obligations.ImportAndExportAnswers : Prop :=
  (∀ (s : State) (p : Requester) (q : QueuedReq) (d : ImportDest) (dest : Option (Fin 24)), AtHead s p q (.importCart d) → importSlot d = some dest →
      let bad : (Element → Bool) → Bool := fun f => match dest with
        | some i => f (.slot i)
        | none => false
      let fresh : Option (Fin 24) := match dest with
        | some i => if (s.ctl.elem (.slot i)).reserved = none then some i else none
        | none => none
      let k := s.ctl.afterAnswer p q .accepted
      let k1 := match fresh with
        | some i => k.setElem (.slot i) { s.ctl.elem (.slot i) with reserved := some p }
        | none => k
      exec (.importCart p d) s = .next (s.withCtl
        (if s.ctl.inv.mail.state ≠ .locked then s.ctl.afterAnswer p q .wrongState
         else if (s.ctl.elem .mail).occ ≠ .empty ∨ bad (fun e => decide ((s.ctl.elem e).occ ≠ .empty)) = true then s.ctl.afterAnswer p q .elementFull
         else if bad s.ctl.slotProtected = true then s.ctl.afterAnswer p q .isProtected
         else if s.ctl.reservedByOther (some p) .mail = true ∨ bad (s.ctl.reservedByOther (some p)) = true then s.ctl.afterAnswer p q .reserved
         else if bad s.ctl.doorBusy = true then s.ctl.afterAnswer p q .doorBusy
         else k1.setMail { s.ctl.inv.mail with state := .openImport, requester := some p, dest := dest, reservedSlot := fresh, label := none,
                                               timer := true, switchOpen := false })))
  ∧ (∀ (s : State) (p : Requester) (q : QueuedReq) (l : Label), AtHead s p q (.exportCart l) →
      (s.ctl.findLabel l = none → exec (.exportCart p l) s = .next (s.withCtl (s.ctl.afterAnswer p q .notFound)))
      ∧ ∀ e : Element, s.ctl.findLabel l = some e →
        let code : Code :=
          if s.ctl.inv.mail.state ≠ .locked then .wrongState
          else if s.ctl.entryProtected (s.ctl.elem e).entry = true then .isProtected
          else if s.ctl.inUse l = true then .inUse
          else if s.ctl.reservedByOther (some p) e = true ∨ s.ctl.reservedByOther (some p) .mail = true then .reserved
          else if e ≠ .mail ∧ (s.ctl.elem .mail).occ ≠ .empty then .elementFull
          else if s.ctl.doorBusy e = true then .doorBusy
          else .accepted
        let k := s.ctl.afterAnswer p q .accepted
        (code ≠ .accepted → exec (.exportCart p l) s = .next (s.withCtl (s.ctl.afterAnswer p q code)))
        ∧ (code = .accepted → e = .mail → exec (.exportCart p l) s = .next (s.withCtl (k.setMail
            { s.ctl.inv.mail with state := .openExport, requester := some p, dest := none, reservedSlot := none, label := some l, timer := true,
                                  switchOpen := false })))
        ∧ (code = .accepted → e ≠ .mail → ∃ t, exec (.exportCart p l) s = .next (s.withCtl t)
            ∧ Raised k t fun id => mailMove id (some p) e (.element .mail) (some l) (.exportMove l)))

/-! ## The picker and the Move Queue (chapter 2) -/

/-- R26, R27, R30: MOVE, LOAD and UNLOAD are answered PICKER_FAULTED while the picker is FAULTED and BAD_ARGUMENT for elements of the wrong kind; the first of R27's other
conditions that holds, written out here, is answered with no change. An accepted order joins the queue's tail with the next free id, which the answer carries. One from a
transport also orders the eject: it waits for it where the transport is MOUNTED and idle, and needs none where the cartridge is out of the tape path. R41: CANCEL_MOVE
takes an order that is not RUNNING from the queue, and the oldest held offer takes its place; the first condition that holds gives the other answers, with no change. R26:
held offers enter the queue's free places, the oldest first. One that enters joins the tail with the next free id; an UNLOAD orders its eject then, which is sent where
the transport is MOUNTED and idle, or held while another order is outstanding there, and one from a FAULTED transport fails at once with WRONG_STATE. That a MOVE of a
protected cartridge to M is PROTECTED, as one to another slot is, is the model's choice (assumption 30, DEDUCED). -/
def Obligations.MoveRequestsAnswered : Prop :=
  (∀ (s : State) (i : Instr) (p : Requester) (r : Req) (q : QueuedReq) (o : Option Order), askedOrder p i = some o → i.request? = some (p, r) →
      AtHead s p q r → r.permitted p = true →
      let id := s.ctl.picker.freeId
      let k := s.ctl.afterAnswer p q .accepted (.orderId id)
      let joins : Ctl → Order → OrderState → Ctl := fun k o st =>
        { k with picker := { s.ctl.picker with queue := s.ctl.picker.queue ++ [{ o with id := id, state := st }], nextId := wrapNext 255 id } }
      (s.ctl.picker.state = .faulted → exec i s = .next (s.withCtl (s.ctl.afterAnswer p q .pickerFaulted)))
      ∧ (s.ctl.picker.state ≠ .faulted → o = none → exec i s = .next (s.withCtl (s.ctl.afterAnswer p q .badArgument)))
      ∧ ∀ x : Order, s.ctl.picker.state ≠ .faulted → o = some x →
        let named : List Element := x.source.element?.toList ++ x.dest.element?.toList
        let entry : Option Entry := x.source.element?.bind fun e => (s.ctl.elem e).entry
        let homeSlot : Option Element := (entry.bind (·.home)).map .slot
        let places : List Element := named ++ (if x.kind = .unload ∧ x.dest = .home then homeSlot.toList else [])
        let forbidden : Bool := match x.dest with
          | .element d =>
            if x.kind = .load then s.ctl.entryProtected entry
            else decide (homeSlot ≠ some d) && (s.ctl.slotProtected d || s.ctl.entryProtected entry)
          | _ => false
        let code : Code :=
          if (named.any fun e => decide ((s.ctl.elem e).occ = .uncertain)) = true then .wrongState
          else if x.kind = .unload ∧ (x.sourceTransport.any fun c => decide ((s.ctl.elem (.transport c)).occ = .empty)) = true then .noCartridge
          else if x.kind = .load ∧ (x.destTransport.any fun c => !s.ctl.chanIdle c) = true then .channelBusy
          else if ((entry.bind (·.label)).any s.ctl.usedByActivity) = true then .inUse
          else if (places.any fun e => (s.ctl.elem e).reserved.any fun r => decide (r ≠ p)) = true then .reserved
          else if forbidden = true then .isProtected
          else if (places.any fun e => e.mag.any fun m => decide ((s.ctl.door m).state ≠ .locked)) = true then .doorBusy
          else if 8 ≤ s.ctl.picker.queue.length then .queueFull
          else .accepted
        (code ≠ .accepted → exec i s = .next (s.withCtl (s.ctl.afterAnswer p q code)))
        ∧ (code = .accepted → x.kind ≠ .unload → exec i s = .next (s.withCtl (joins k x .ready)))
        ∧ ∀ c : Chan, code = .accepted → x.kind = .unload → x.sourceTransport = some c →
          ((s.ctl.tr c).state = .mounted → (s.ctl.tr c).order = none → exec i s = .next (s.withCtl
              (joins (k.setTr c { s.ctl.tr c with state := .ejecting, order := some { kind := .eject, task := .eject } }) x .ejectWait)))
          ∧ ((s.ctl.tr c).state = .ejected → exec i s = .next (s.withCtl (joins k x .ready))))
  ∧ (∀ (s : State) (l : Link) (q : QueuedReq) (id : Nat), AtHead s (.link l) q (.cancelMove id) →
      exec (.cancelMove (.link l) id) s = .next (s.withCtl
        (match s.ctl.picker.queue.find? fun o => o.id = id with
          | none => s.ctl.afterAnswer (.link l) q .notFound
          | some o =>
            if o.internal then s.ctl.afterAnswer (.link l) q .notPermitted
            else if o.requester ≠ some (.link l) then s.ctl.afterAnswer (.link l) q .notOwner
            else if o.state = .running then s.ctl.afterAnswer (.link l) q .wrongState
            else
              { s.ctl.afterAnswer (.link l) q .ok with
                picker := { s.ctl.picker with queue := s.ctl.picker.queue.filter fun o => o.id ≠ id } }.admitHeld))
      ∧ (s.ctl.picker.held = [] → s.ctl.admitHeld = s.ctl))
  ∧ (∀ k : Ctl, (8 ≤ k.picker.queue.length → k.admitHeld = k)
      ∧ (∀ o rest, k.picker.held = o :: rest → k.picker.queue.length < 8 →
          k.admitHeld = ({ k with picker := { k.picker with held := rest } }.enter o).admitHeld)
      ∧ ∀ o : Order,
        let joins : Ctl → OrderState → Ctl := fun k' st =>
          { k' with picker := { k.picker with queue := k.picker.queue ++ [{ o with id := k.picker.freeId, state := st }], nextId := wrapNext 255 k.picker.freeId } }
        (o.kind ≠ .unload → k.enter o = joins k .ready)
        ∧ ∀ c, o.kind = .unload → o.sourceTransport = some c →
          let t := k.tr c
          (t.state = .faulted → k.enter o =
              { k with picker := { k.picker with nextId := wrapNext 255 k.picker.freeId } }.notifyOpt o.requester (.moveFailed k.picker.freeId .wrongState))
          ∧ (t.state = .ejected → k.enter o = joins k .ready)
          ∧ (t.state = .mounted → t.order = none → k.enter o =
              joins (k.setTr c { t with state := .ejecting, order := some { kind := .eject, task := .eject } }) .ejectWait)
          ∧ (t.state = .empty → t.order = none → k.enter o = joins (k.setTr c { t with order := some { kind := .eject, task := .eject } }) .ejectWait)
          ∧ (t.state = .ejecting ∨ t.state = .empty ∧ t.order = some { kind := .eject, task := .eject } → k.enter o = joins k .ejectWait)
          ∧ (t.state = .threading ∨ t.state = .moving ∨ t.state = .reading ∨ t.state = .writing ∨ t.state = .mounted ∧ t.order ≠ none
              ∨ t.state = .empty ∧ t.order ≠ none ∧ t.order ≠ some { kind := .eject, task := .eject } →
              k.enter o = joins (k.setTr c { t with pendingEject := true }) .ejectWait))

/-- R40, R43: RESUME_PICKER of a FAULTED picker sends HOME; in any other state it is WRONG_STATE. Once the gripper is settled the picker is IDLE, every requester is told,
and the AUDITs and SCAN_ALL held again after a fault join the Move Queue in their order, or are held where it is full; that every requester is told after the HOME of
power-up too is the model's choice (assumption 16, DEDUCED). HOME answered EMPTY settles an empty gripper as it is, and makes an uncertain one EMPTY; answered HOLDING, it
leaves an uncertain one to SCAN_ALL. Answered EMPTY at a full gripper, the gripper becomes EMPTY and its cartridge is looked for where the failed PUT was to put it: a
slot or M is read, and a transport that holds a cartridge has it, FULL, while otherwise the entry is dropped and its catalogued cartridge OUTSIDE. The READ that follows
is applied by R17 with the entry from the gripper as the last known one. Answered HOLDING at an empty gripper, the entry of the failed order's source moves to the
gripper, the source becomes EMPTY, and the put-back follows as at a full one. Answered HOLDING at a full gripper, the cartridge is put at the failed order's source where
that is an EMPTY slot or M, or for a transport at its EMPTY home slot, else at the lowest free slot; a protected cartridge passes over every protected slot but its home.
With no place it stays, every requester is told NO_SLOT, and the picker is IDLE. The model's choices: where no failed order, or one on behalf of no requester, stands
behind the put-back, no reservation keeps a slot from it (assumption 47, DESIGN CHOICE); a cartridge gripped with no entry known is a newly found one without a label
(assumption 48, DESIGN CHOICE); where no PUT failed the entry is dropped (assumption 49, DESIGN CHOICE); and a search whose READ failed is given up at the next EMPTY
(assumption 83, DESIGN CHOICE). -/
def Obligations.PickerHomes : Prop :=
  ∀ s : State,
    let k := s.ctl
    let audits : Prop := ∀ o ∈ k.picker.auditOffers, o.kind = .audit ∨ o.kind = .scanAll
    let apart : Element → Label → Prop := fun e l => ∀ x, x ≠ e → x ≠ .gripper → (k.elem x).occ ≠ .uncertain → k.labelAt x ≠ some l
    (∀ (p : Requester) (q : QueuedReq), AtHead s p q .resumePicker → exec (.resumePicker p) s = .next (s.withCtl
      (if k.picker.state = .faulted then
         { k.afterAnswer p q .accepted with
           picker := { k.picker with state := .homing, cmd := some .home, phase := .homing, homeRetry := 0 } }
       else k.afterAnswer p q .wrongState)))
    ∧ (∀ h, k.picker.cmd = some .home → Answered k →
        ((k.elem .gripper).occ = .empty → audits → exec (.homeDone false h) s = .next (s.withCtl k.gripperSettled))
        ∧ ((k.elem .gripper).occ = .uncertain → audits →
            exec (.homeDone false h) s = .next (s.withCtl (k.emptied .gripper).gripperSettled)
            ∧ exec (.homeDone true h) s = .next (s.withCtl k.gripperSettled))
        ∧ ∀ en, (k.elem .gripper).occ = .full → (k.elem .gripper).entry = some en →
          let k1 := k.emptied .gripper
          let dest := k.picker.failed.bind (·.putDest)
          (∀ d, dest = some d → (∀ c, d ≠ .transport c) → exec (.homeDone false h) s = .next (s.withCtl
              { k1 with picker := { k.picker with cmd := some (.read d), phase := .homeReading d, carried := some en } }))
          ∧ (∀ c, dest = some (.transport c) → h = true → audits → (∀ l, en.label = some l → apart (.transport c) l) →
              let k2 := (k1.fullWith (.transport c) en).setLoc en.label (some (.transport c))
              exec (.homeDone false h) s = .next (s.withCtl
                (k2.setTr c { k.tr c with present := true, state := if (k.tr c).state = .empty then .ejected else (k.tr c).state }).gripperSettled))
          ∧ (dest = none ∨ (∃ c, dest = some (.transport c)) ∧ h = false → audits →
              exec (.homeDone false h) s = .next (s.withCtl (k1.setLoc en.label none).gripperSettled)))
    ∧ (∀ (e : Element) (en : Entry) (r : ReadReport), k.picker.cmd = some (.read e) → k.picker.phase = .homeReading e → k.picker.carried = some en → Answered k → audits →
        let k1 := k.setLoc en.label none
        (r = .noCartridge → exec (.readDone r) s = .next (s.withCtl (k1.emptied e).gripperSettled))
        ∧ (∀ l, en.label = some l → k.standsElsewhere l e = false → r = .unreadable ∨ r = .label l ∧ readableLabel l = true →
            exec (.readDone r) s = .next (s.withCtl ((k1.fullWith e en).setLoc (some l) (some e)).gripperSettled))
        ∧ ∀ l, r = .label l → readableLabel l = true → en.label ≠ some l → k.standsElsewhere l e = false → ∃ t, exec (.readDone r) s = .next (s.withCtl t)
            ∧ t.elem e = { k.elem e with occ := .full, entry := some { label := some l, home := Machine.Element.homeOf e, acclim := k.climate.acclimation, tab := .unknown } }
            ∧ (∀ x, x ≠ e → t.elem x = k.elem x) ∧ t.motion = k1.gripperSettled.motion ∧ t.links = (k.notifyAll .pickerIdle).links
            ∧ (∀ l', en.label = some l' → t.cat.cart? l' = (k.cat.cart? l').map fun c => { c with loc := none }))
    ∧ (∀ h, k.picker.cmd = some .home → (k.elem .gripper).occ = .empty →
        let unknown : Entry := { label := none, home := none, acclim := k.climate.acclimation, tab := .unknown }
        (∀ e, k.picker.failed.bind (·.source) = some e → e ≠ .gripper →
          let en := (k.elem e).entry.getD unknown
          (∀ l, en.label = some l → apart e l) →
            let k1 := ((k.emptied e).fullWith .gripper en).setLoc en.label (some .gripper)
            exec (.homeDone true h) s = exec (.homeDone true h) (s.withCtl (match e with
              | .transport c => k1.setTr c { k.tr c with present := false, tabSeen := none, state := if (k.tr c).state = .faulted then .faulted else .empty }
              | _ => k1)))
        ∧ (k.picker.failed.bind (·.source) = none →
            exec (.homeDone true h) s = exec (.homeDone true h) (s.withCtl (k.fullWith .gripper unknown))))
    ∧ ∀ h, k.picker.cmd = some .home → (k.elem .gripper).occ = .full → Answered k →
        let entry := (k.elem .gripper).entry
        let homeSlot : Option Element := (entry.bind (·.home)).map .slot
        let failed := k.picker.failed
        let requester : Option Requester := failed.bind (·.requester)
        let first : Option Element := match failed.bind (·.source) with
          | some (.slot i) => some (.slot i)
          | some .mail => some .mail
          | some (.transport _) => homeSlot
          | _ => none
        let takes : Element → Prop := fun e => (k.elem e).occ = .empty
          ∧ (k.entryProtected entry = true → k.slotProtected e = true → homeSlot = some e)
        let free : Fin 24 → Prop := fun i => (k.elem (.slot i)).occ = .empty
          ∧ (k.slotProtected (.slot i) = true → homeSlot = some (.slot i))
          ∧ (∀ r, requester ≠ none → (k.elem (.slot i)).reserved = some r → requester = some r)
          ∧ ∀ m, (Element.slot i).mag = some m → (k.door m).state = .locked
        let put : Element → Ctl := fun d => { k with picker := { k.picker with cmd := some (.put d), phase := .homePutBack d, homeRetry := 0 } }
        (∀ e, first = some e → takes e → exec (.homeDone true h) s = .next (s.withCtl (put e)))
        ∧ ((∀ e, first = some e → ¬takes e) →
          (∀ i, free i → (∀ j, j < i → ¬free j) → exec (.homeDone true h) s = .next (s.withCtl (put (.slot i))))
          ∧ ((∀ i, ¬free i) → audits → exec (.homeDone true h) s = .next (s.withCtl (k.notifyAll (.noSlot (entry.bind (·.label)) .gripper)).gripperSettled)))

/-- R31, R32, R34, R36: in IDLE the oldest WAITING order is started. A MOVE, LOAD or UNLOAD whose checks pass becomes RUNNING, with the FETCH of its source sent, or the
PUT where its source is the gripper; an AUDIT becomes RUNNING with the READ of its first slot, or of M alone; SCAN_ALL with the READ of its first element, where it passes
over the slots behind a door that is OPEN or in AUDIT; an import's move that finds no slot with the READ of M in place of its FETCH; and nothing else changes, but that at
a RELOAD the gripper's last known entry is taken back, where there is none as EMPTY (assumption 46, DESIGN CHOICE). Without a WAITING order, or outside IDLE, nothing is
started. R32: an order whose start fails leaves the queue with MOVE_FAILED to its requester, and where HOME finds no slot NO_SLOT goes to every requester before it. Here
the order is none of an import or export and, if a LOAD, of no activity; nothing is held, no door is ASKING and no channel is draining, so that nothing else follows. The
checks of R32 are written out, with HOME as R18 resolves it: to the home slot that is EMPTY, where a reservation of another fails it, and else to the lowest free slot;
that an UNCERTAIN home slot counts with the FULL ones is the model's choice (assumption 43), and so is PROTECTED for the MOVE of a protected cartridge to M (assumption
30, DEDUCED). So are those of an import's move, which R20 gives: its named slot where it is still good, or the lowest free one; that a named slot that has become
UNCERTAIN or reserved leads to the READ of M is the model's choice (assumption 68, DEDUCED). The conditions of R29 that defer an order are written out too, and the oldest
order that none of them defers. -/
def Obligations.OrdersStart : Prop :=
  (∀ s : State, Answered s.ctl →
      let running : Order → MotionCmd → Phase → Ctl := fun o cmd ph =>
        { s.ctl with picker := { s.ctl.picker with
            state := .busy, cmd := some cmd, phase := ph
            queue := s.ctl.picker.queue.map fun x => if x.id = o.id then { x with state := .running, retry := 0 } else x } }
      (s.ctl.picker.state ≠ .idle ∨ s.ctl.oldestWaiting = none → exec .orderStart s = .next s)
      ∧ ∀ o : Order, s.ctl.picker.state = .idle → s.ctl.oldestWaiting = some o →
        (∀ src d, o.kind ≠ .audit → o.kind ≠ .scanAll → s.ctl.startChecks o = .goes src d → src ≠ .gripper →
          exec .orderStart s = .next (s.withCtl (running o (.fetch src) (.fetching d))))
        ∧ (∀ d, o.kind ≠ .audit → o.kind ≠ .scanAll → s.ctl.startChecks o = .goes .gripper d →
          exec .orderStart s = .next (s.withCtl (running o (.put d) (.putting d))))
        ∧ (∀ m e rest, o.kind = .audit → o.source = .magazine m → m.slots = e :: rest →
          exec .orderStart s = .next (s.withCtl (running o (.read e) (.scanning (e :: rest)))))
        ∧ (o.kind = .audit → o.source = .element .mail → exec .orderStart s = .next (s.withCtl (running o (.read .mail) (.scanning [.mail]))))
        ∧ (o.kind ≠ .audit → o.kind ≠ .scanAll → s.ctl.startChecks o = .importStays → exec .orderStart s = .next (s.withCtl (running o (.read .mail) .importRead)))
        ∧ (o.kind = .scanAll → (∀ l, s.ctl.labelAt .gripper = some l → s.ctl.standsElsewhere l .gripper = false) →
          let behind : Mag → Prop := fun m => (s.ctl.door m).state = .opened ∨ (s.ctl.door m).state = .audit
          let back : Ctl → Ctl := fun k =>
            if o.role = .reloadScan ∧ (k.elem .gripper).occ = .uncertain then
              match (k.elem .gripper).entry with
              | some en => k.fullWith .gripper en
              | none => k.emptied .gripper
            else k
          let begins : Element → List Element → List Element → Prop := fun e rest passed =>
            let k := running o (.read e) (.scanning (e :: rest))
            exec .orderStart s = .next (s.withCtl (back { k with picker := { k.picker with passed := passed } }))
          let right := Mag.r.slots
          (¬behind .l → begins (.slot 0) (Mag.l.slots.tail ++ right ++ [.mail]) [])
          ∧ (behind .l → ¬behind .r → begins (.slot 12) (right.tail ++ [.mail]) Mag.l.slots)
          ∧ (behind .l → behind .r → s.ctl.inv.mail.forced = false → begins .mail [] (Mag.l.slots ++ right))))
  ∧ (∀ (s : State) (o : Order), Answered s.ctl → s.ctl.picker.state = .idle → s.ctl.oldestWaiting = some o →
      o.kind = .move ∨ o.kind = .unload ∨ o.kind = .load ∧ o.raisedBy = none → o.role = .plain →
      s.ctl.picker.held = [] → (∀ m, (s.ctl.door m).state ≠ .asking) → (∀ c, (s.ctl.chan c).drain = none) →
      let left : Ctl → Ctl := fun k => { k with picker := { k.picker with queue := k.picker.queue.filter fun x => x.id ≠ o.id } }
      (∀ r, s.ctl.startChecks o = .fails r → exec .orderStart s = .next (s.withCtl ((left s.ctl).notifyOpt o.requester (.moveFailed o.id r))))
      ∧ (∀ src, s.ctl.startChecks o = .noSlot → o.source = .element src → exec .orderStart s = .next (s.withCtl
          ((left (s.ctl.notifyAll (.noSlot (s.ctl.labelAt src) src))).notifyOpt o.requester (.moveFailed o.id .elementFull)))))
  ∧ (∀ (k : Ctl) (o : Order) (src : Element), o.source = .element src → (∀ slot, o.role ≠ .importMove slot) → o.state ≠ .running →
      let entry := (k.elem src).entry
      let homeSlot : Option Element := (entry.bind (·.home)).map .slot
      let named : List Element := src :: o.dest.element?.toList
      let places : List Element := named ++ (if o.kind = .unload ∧ o.dest = .home then homeSlot.toList else [])
      let others : Element → Bool := fun e => o.requester.isSome && (k.elem e).reserved.any fun r => decide (some r ≠ o.requester)
      let dest : Option Element := match o.dest with
        | .element d => some d
        | _ => k.resolveHome o.requester entry
      k.startChecks o =
        (if (named.any fun e => decide ((k.elem e).occ = .uncertain)) = true then .fails .wrongState
         else if o.kind = .load ∧ (o.destTransport.any fun c => decide ((k.tr c).state = .faulted)) = true then .fails .wrongState
         else if o.kind = .load ∧ o.internal = false ∧ (o.destTransport.any fun c => !k.chanIdle c) = true then .fails .channelBusy
         else if places.any others = true then .fails .reserved
         else if (k.elem src).occ = .empty then .fails .noCartridge
         else
           match dest with
           | none => .noSlot
           | some d =>
             if (k.elem d).occ = .full then .fails .elementFull
             else if o.kind = .load ∧ k.entryProtected entry = true ∧ (o.purpose = .write ∨ o.purpose = .none) then .fails .isProtected
             else if o.kind ≠ .load ∧ homeSlot ≠ some d ∧ (k.slotProtected d = true ∨ k.entryProtected entry = true) then .fails .isProtected
             else .goes src d))
  ∧ (∀ (k : Ctl) (o : Order) (slot : Option (Fin 24)), o.role = .importMove slot →
      let others : Element → Prop := fun e => o.requester ≠ none ∧ ∃ r, (k.elem e).reserved = some r ∧ o.requester ≠ some r
      let good : Element → Prop := fun e => (k.elem e).occ = .empty ∧ k.slotProtected e = false ∧ ¬others e ∧ ∀ m, e.mag = some m → (k.door m).state = .locked
      (others .mail → k.startChecks o = .fails .reserved)
      ∧ (¬others .mail → (k.elem .mail).occ = .empty → k.startChecks o = .fails .noCartridge)
      ∧ (¬others .mail → (k.elem .mail).occ ≠ .empty →
          (∀ e, o.dest = .element e → (good e → k.startChecks o = .goes .mail e) ∧ (¬good e → k.startChecks o = .importStays))
          ∧ (o.dest = .any → (∀ d, k.resolveHome o.requester none = some d → k.startChecks o = .goes .mail d)
              ∧ (k.resolveHome o.requester none = none → k.startChecks o = .importStays))))
  ∧ (∀ (k : Ctl) (p : Option Requester) (entry : Option Entry),
      let free : Fin 24 → Prop := fun i => (k.elem (.slot i)).occ = .empty ∧ k.inv.protect.covers i = false
        ∧ (p ≠ none → ∀ r, (k.elem (.slot i)).reserved = some r → p = some r) ∧ ∀ m, (Element.slot i).mag = some m → (k.door m).state = .locked
      let atHome : Fin 24 → Prop := fun h => entry.bind (·.home) = some h ∧ (k.elem (.slot h)).occ = .empty
      (∀ h, atHome h → (p = none ∨ (k.elem (.slot h)).reserved = none ∨ (k.elem (.slot h)).reserved = p) → k.resolveHome p entry = some (.slot h))
      ∧ (∀ h r, atHome h → p ≠ none → (k.elem (.slot h)).reserved = some r → p ≠ some r → k.resolveHome p entry = none)
      ∧ ((∀ h, ¬atHome h) →
          (∀ i, free i → (∀ j, j < i → ¬free j) → k.resolveHome p entry = some (.slot i)) ∧ ((∀ i, ¬free i) → k.resolveHome p entry = none)))
  ∧ (∀ (k : Ctl) (o : Order),
      let doorWaits : Prop := ∃ m, (k.door m).state ≠ .locked ∧ k.touches o m = true
      let gripperWaits : Prop := o.source ≠ .element .gripper ∧ (k.elem .gripper).occ ≠ .empty ∧ k.picker.state = .idle
      let acclimates : Prop := ∃ e en, o.source = .element e ∧ (k.elem e).entry = some en ∧ 0 < en.acclim
      let toTransport : Prop := ∃ c, o.dest = .element (.transport c) ∧ ((k.elem (.transport c)).occ ≠ .empty ∨ (k.tr c).state ≠ .empty)
      let toFaulted : Prop := ∃ c, o.dest = .element (.transport c) ∧ (k.tr c).state = .faulted
      ((o.kind = .move ∨ o.kind = .unload) → (k.deferred o = true ↔ doorWaits ∨ gripperWaits))
      ∧ (o.kind = .load → (k.deferred o = true ↔ ¬toFaulted ∧ (k.climate.hold = true ∨ acclimates ∨ toTransport ∨ doorWaits ∨ gripperWaits)))
      ∧ (o.kind = .audit → (k.deferred o = true ↔ ∃ m, o.source = .magazine m
          ∧ ((k.door m).state = .asking ∨ (k.door m).state = .unlocked ∨ (k.door m).state = .opened)))
      ∧ (o.kind = .scanAll → k.deferred o = false)
      ∧ (o.state ≠ .running → (o.kind = .move ∨ o.kind = .load ∨ o.kind = .unload) → ∀ m, (k.touches o m = true ↔
          (∃ e, (o.source = .element e ∨ o.dest = .element e) ∧ e.mag = some m)
            ∨ ∃ e en h, o.kind = .unload ∧ o.dest = .home ∧ o.source = .element e ∧ (k.elem e).entry = some en ∧ en.home = some h ∧ (Element.slot h).mag = some m))
      ∧ (∀ before after, k.picker.queue = before ++ o :: after → o.state = .ready → k.deferred o = false →
          (∀ x ∈ before, x.state ≠ .ready ∨ k.deferred x = true) → k.oldestWaiting = some o)
      ∧ ((∀ x ∈ k.picker.queue, x.state ≠ .ready ∨ k.deferred x = true) → k.oldestWaiting = none))

/-- R34, R3: a FETCH answered DONE: the source is EMPTY, the gripper FULL with the entry, and the PUT is sent; a source transport is EMPTY. A label the raising block did
not want is put back instead. The label read is applied: the entry's own label, and an unreadable one where the entry holds a label, change no field, and the cartridge's
catalog location is the gripper; a readable one that stands nowhere else is taken, as of a newly found cartridge, whose home slot is the one it was fetched from, or none
(assumption 64, DEDUCED), and the old label's record is OUTSIDE; one that stands in another element goes with DUPLICATE_LABEL to every requester, and the cartridge gets
the provisional label of its source; so does a cartridge with no label whose read is unreadable; the first label read of a cartridge that came with a transport gives it
the tab the transport has reported, and leaves it its acclimation, but at a RELOAD (assumption 58, DEDUCED); and a cartridge of an import is a newly found one at M,
whatever its label. R34: a FETCH answered EMPTY leaves the source EMPTY with no entry and the picker IDLE; the cartridge looked for is OUTSIDE, and the order, here a MOVE
of no import or export with nothing held, leaves the queue with MOVE_FAILED(NO_CARTRIDGE) to its requester. -/
def Obligations.FetchMovesEntry : Prop :=
  (∀ (s : State) (o : Order) (src dest : Element) (rd : LabelRead),
      s.ctl.picker.cmd = some (.fetch src) → s.ctl.picker.phase = .fetching dest → s.ctl.picker.running = some o → src ≠ .gripper → Answered s.ctl →
      let k := s.ctl
      let e := exec (.fetchDone rd) s
      let read : Option Label := match rd with
        | .label l => if readableLabel l = true then some l else none
        | .unreadable => none
      let slotOf : Option (Fin 24) := match src with
        | .slot i => some i
        | _ => none
      let apart : Label → Prop := fun l => ∀ x, x ≠ src → x ≠ .gripper → (k.elem x).occ ≠ .uncertain → k.labelAt x ≠ some l
      let stands : Label → Prop := fun l => ∃ x, x ≠ src ∧ x ≠ .gripper ∧ (k.elem x).occ ≠ .uncertain ∧ k.labelAt x = some l
      let provisional : Label := 0x3F#8 :: src.name
      let movedTelling : Ctl → Ctl → Entry → Prop := fun k' t en =>
        t.elem src = { k.elem src with occ := .empty, entry := none } ∧ t.elem .gripper = { k.elem .gripper with occ := .full, entry := some en }
          ∧ (∀ x, x ≠ src → x ≠ .gripper → t.elem x = k.elem x)
          ∧ (let wrong := o.internal = true ∧ ∃ w, o.wanted = some w ∧ en.label ≠ some w
             (wrong → t.picker.cmd = some (.put src) ∧ t.picker.phase = .puttingBack) ∧ (¬wrong → t.picker.cmd = some (.put dest) ∧ t.picker.phase = .putting dest))
          ∧ (∀ c, src = .transport c → (k.tr c).state ≠ .faulted → t.tr c = { k.tr c with present := false, tabSeen := none, state := .empty })
          ∧ (∀ c, src ≠ .transport c → t.tr c = k.tr c)
          ∧ t.standing = k.standing ∧ t.chans = k.chans ∧ t.verify = k.verify ∧ t.restore = k.restore ∧ t.links = k'.links ∧ t.panel = k'.panel
      let moved := movedTelling k
      let newlyFound : Label → Entry := fun l => { label := some l, home := slotOf, acclim := k.climate.acclimation, tab := .unknown }
      let seen : Option TabReport := match src with
        | .transport c => (k.tr c).tabSeen
        | _ => none
      let catalogued : Catalog → Label → Prop := fun cat l => cat.cart? l = match k.cat.cart? l with
        | some c => some { c with loc := some .gripper }
        | none => if readableLabel l = true ∧ k.cat.carts.length < 64 then some (Cart.fresh l (some .gripper)) else none
      ((∀ slot, o.role ≠ .importMove slot) → ∀ en, (k.elem src).entry = some en →
        (∀ l, en.label = some l → apart l → (read = some l ∨ read = none) →
          ∃ t, e = .next (s.withCtl t) ∧ moved t en ∧ t.cat = k.cat.modCart l (fun c => { c with loc := some .gripper }))
        ∧ (∀ l l', en.label = some l → apart l → read = some l' → l' ≠ l → apart l' →
          ∃ t, e = .next (s.withCtl t) ∧ moved t (newlyFound l') ∧ catalogued t.cat l'
            ∧ t.cat.cart? l = (k.cat.cart? l).map fun c => { c with loc := none })
        ∧ (∀ l l', en.label = some l → apart l → read = some l' → l' ≠ l → stands l' → apart provisional →
          ∃ t, e = .next (s.withCtl t) ∧ movedTelling (k.notifyAll (.duplicateLabel l' src)) t (newlyFound provisional)
            ∧ t.cat = k.cat.modCart l fun c => { c with loc := none })
        ∧ (en.label = none → apart provisional →
          let acclim := match src with
            | .transport _ => if o.role = .reloadScan then k.climate.acclimation else en.acclim
            | _ => k.climate.acclimation
          let first : Label → Entry := fun l => { newlyFound l with acclim := acclim, tab := (seen.map (·.tab)).getD .unknown }
          (read = none → ∃ t, e = .next (s.withCtl t) ∧ moved t { en with label := some provisional, tab := (seen.map (·.tab)).getD en.tab } ∧ t.cat = k.cat)
          ∧ (∀ l, read = some l → apart l → ∃ t, e = .next (s.withCtl t) ∧ moved t (first l) ∧ catalogued t.cat l)
          ∧ (∀ l, read = some l → stands l →
              ∃ t, e = .next (s.withCtl t) ∧ movedTelling (k.notifyAll (.duplicateLabel l src)) t (first provisional) ∧ t.cat = k.cat)))
      ∧ (∀ slot, o.role = .importMove slot → src = .mail → k.labelAt .mail = none →
          (∀ l', read = some l' → apart l' → ∃ t, e = .next (s.withCtl t) ∧ moved t (newlyFound l') ∧ catalogued t.cat l')
          ∧ (read = none → apart provisional → ∃ t, e = .next (s.withCtl t) ∧ moved t (newlyFound provisional) ∧ t.cat = k.cat)
          ∧ (∀ l', read = some l' → stands l' → apart provisional → ∃ t, e = .next (s.withCtl t)
              ∧ movedTelling (k.notifyAll (.duplicateLabel l' .mail)) t (newlyFound provisional) ∧ t.cat = k.cat)))
  ∧ (∀ (s : State) (o : Order) (src : Element), s.ctl.picker.cmd = some (.fetch src) → s.ctl.picker.running = some o → o.role = .plain → Answered s.ctl →
      ∃ t, exec .fetchEmpty s = .next (s.withCtl t)
        ∧ t.elem src = { s.ctl.elem src with occ := .empty, entry := none } ∧ (∀ e, e ≠ src → t.elem e = s.ctl.elem e)
        ∧ t.motion = { s.ctl.motion with state := .idle, cmd := none, phase := .idle } ∧ t.standing = s.ctl.standing
        ∧ (o.kind = .move → s.ctl.picker.held = [] → (∀ m, (s.ctl.door m).state ≠ .asking) → (∀ c, (s.ctl.chan c).drain = none) →
            t.picker.queue = (s.ctl.picker.queue.filter fun x => x.id ≠ o.id)
            ∧ t.links = (s.ctl.notifyOpt o.requester (.moveFailed o.id .noCartridge)).links ∧ t.panel = (s.ctl.notifyOpt o.requester (.moveFailed o.id .noCartridge)).panel
            ∧ (∀ l, s.ctl.labelAt src = some l → t.cat = s.ctl.cat.modCart l (fun c => { c with loc := none }))
            ∧ (s.ctl.labelAt src = none → t.cat = s.ctl.cat)))

/-- R35: a PUT at the destination completes the order: the gripper is EMPTY, the destination holds the entry with the home slot that the order gives it, and the picker is
IDLE. Here the label in the gripper stands nowhere else (R1). Where nothing follows the order's departure and nobody else waits for a cartridge, a catalogued cartridge's
location is the destination, the order leaves the queue, MOVE_DONE goes to its requester alone, and no transport changes but, for a LOAD, the order's own, which is
ordered to THREAD for the activity that raised the LOAD, or for none. R20: the move of an import so completed also tells its requester MAIL_SLOT(IMPORT, OK) with the
label, and the reservation made for it returns to NONE, where its requester holds it (assumption 57, DEDUCED). R21: that of an export opens the mail slot for its
requester, here where no IMPORT has opened it meanwhile, with its timer running. R34: the PUT of a cartridge whose label the order did not want sets it down at the source
as it was, and the order leaves the queue with MOVE_FAILED(MISMATCH); a transport holds it unthreaded. Here that order is none of an activity, and no import or export.
R40: the put-back after a HOME sets the cartridge down as it was, and the gripper is settled. -/
def Obligations.PutDoneSetsDown : Prop :=
  ∀ (s : State) (d : Element) (e : Entry), s.ctl.picker.cmd = some (.put d) → d ≠ .gripper → (s.ctl.elem .gripper).entry = some e → Answered s.ctl →
    (∀ l, s.ctl.labelAt .gripper = some l → s.ctl.standsElsewhere l .gripper = false) →
    let k := s.ctl
    let setDown : Ctl → Entry → Prop := fun t en =>
      t.elem .gripper = { k.elem .gripper with occ := .empty, entry := none }
      ∧ (∃ r, t.elem d = { k.elem d with occ := .full, entry := some en, reserved := r })
      ∧ t.motion = { k.motion with state := .idle, cmd := none, phase := .idle } ∧ t.standing = k.standing
    let stays : Ctl → Prop := fun t => ∀ x, x ≠ .gripper → (x ≠ d → t.elem x = k.elem x) ∧ (t.elem x).reserved = (k.elem x).reserved
    let located : Ctl → Prop := fun t => (∀ l, e.label = some l → t.cat = k.cat.modCart l fun c => { c with loc := some d }) ∧ (e.label = none → t.cat = k.cat)
    let rest : Ctl → Prop := fun t => t.inv.doors = k.inv.doors ∧ t.chans = k.chans ∧ t.verify = k.verify ∧ t.restore = k.restore
    (∀ o : Order, k.picker.phase = .putting d → k.picker.running = some o →
      ∃ t, exec .putDone s = .next (s.withCtl t) ∧ setDown t (o.home d e)
        ∧ (o.role = .plain → stays t)
        ∧ (∀ (i : Fin 24) (en : Entry), d = .slot i → o.kind ≠ .load → (o.home d en).home = some i)
        ∧ (∀ (i : Fin 24) (en : Entry), o.kind = .load → o.source = .element (.slot i) → (o.home d en).home = some i)
        ∧ (LeavesQuietly k → o.unloadAfter = false →
            let done : Ctl → Prop := fun t => t.picker.queue = (k.picker.queue.filter fun x => x.id ≠ o.id) ∧ located t ∧ rest t
            let told := k.notifyOpt o.requester (.moveDone o.id)
            let tells : Ctl → Ctl → Prop := fun t k' => t.links = k'.links ∧ t.panel = k'.panel
            (o.role = .plain → o.kind ≠ .load → NobodyWaits k none → done t ∧ tells t told ∧ t.inv.mail = k.inv.mail ∧ t.trans = k.trans)
            ∧ (∀ slot, o.role = .importMove slot → o.kind = .move → NobodyWaits k none →
                done t ∧ tells t (told.notifyOpt o.requester (.mailSlot .imported .ok e.label)) ∧ t.inv.mail = k.inv.mail ∧ t.trans = k.trans
                ∧ ∀ x, x ≠ .gripper → (x ≠ d → (t.elem x).occ = (k.elem x).occ ∧ (t.elem x).entry = (k.elem x).entry)
                  ∧ (t.elem x).reserved = if (∃ i, slot = some i ∧ x = .slot i) ∧ (k.elem x).reserved = o.requester then none else (k.elem x).reserved)
            ∧ (∀ l, o.role = .exportMove l → o.kind = .move → k.inv.mail.state ≠ .openImport → NobodyWaits k none →
                done t ∧ tells t told ∧ stays t ∧ t.trans = k.trans
                ∧ t.inv.mail = { k.inv.mail with state := .openExport, requester := o.requester, dest := none, reservedSlot := none, label := some l, timer := true, switchOpen := false })
            ∧ ∀ c, o.role = .plain → o.kind = .load → d = .transport c → o.dest = .element d →
                NobodyWaits k (if o.raisedBy = some (.restoreUnit c) then some c else none) →
                (k.tr c).state = .empty → (k.tr c).order = none → (∀ v, k.verifyOn c = some v → v.pauseAsked = false) →
                done t ∧ tells t told ∧ t.inv.mail = k.inv.mail ∧ t.tr c.other = k.tr c.other
                ∧ t.tr c = { k.tr c with present := true, state := .threading, order := some { kind := .thread, task := match o.raisedBy with
                  | some (.chan _) => .sThread
                  | some (.restoreUnit _) => .rThread
                  | some .storeController => .cThread
                  | some .verifyUnit => if (k.verifyOn c).isSome then .vThread else .plainThread
                  | _ => .plainThread } }))
    ∧ (∀ o : Order, k.picker.phase = .puttingBack → k.picker.running = some o → o.source = .element d → o.role = .plain →
        o.kind = .move ∨ o.kind = .unload ∨ o.kind = .load ∧ o.raisedBy = none → LeavesQuietly k →
        ∃ t, exec .putDone s = .next (s.withCtl t) ∧ setDown t e ∧ stays t ∧ located t ∧ rest t ∧ t.inv.mail = k.inv.mail
          ∧ t.picker.queue = (k.picker.queue.filter fun x => x.id ≠ o.id)
          ∧ t.links = (k.notifyOpt o.requester (.moveFailed o.id .mismatch)).links ∧ t.panel = (k.notifyOpt o.requester (.moveFailed o.id .mismatch)).panel
          ∧ ∀ c, t.tr c = if d = .transport c then { k.tr c with present := true, state := if (k.tr c).state = .empty then .ejected else (k.tr c).state } else k.tr c)
    ∧ (k.picker.phase = .homePutBack d → (∀ o ∈ k.picker.auditOffers, o.kind = .audit ∨ o.kind = .scanAll) →
        exec .putDone s = .next (s.withCtl (((k.emptied .gripper).fullWith d e).setLoc e.label (some d)).gripperSettled))

/-- R17, R23, R36: a READ of a magazine's AUDIT or of SCAN_ALL that is not the last rebuilds the element's record and sends the READ of the next one. No cartridge leaves
it EMPTY with no entry. The last known label, and an unreadable one where a label is known, keep the entry whole, with the catalog location here, while that label stands
nowhere else. Any other readable label that stands nowhere else is a newly found cartridge, with this slot as home and the acclimation time to wait, or none at power-up;
a readable one that stands elsewhere gets a provisional label, and DUPLICATE_LABEL goes to every requester; so does an unreadable one, without the notice, where no label
is known. A known label that stands elsewhere by now is not kept, whether it is read again or unreadable: the cartridge is a newly found one with a provisional label (the
model's choice, assumption 28). R17: the last READ of an AUDIT locks the door, sends the magazine's missing cartridges OUTSIDE, and tells every requester. R23, R36: after
M, with no cartridge in a transport or the gripper, SCAN_ALL is complete: a cartridge it has not found is OUTSIDE, unless its location is a place that the scan passed
over, or a slot that it read and that a door's opening has made UNCERTAIN since. Here nothing waits for what a scan has found. -/
def Obligations.AuditReadRebuilds : Prop :=
  (∀ (s : State) (o : Order) (e e2 : Element) (rest : List Element) (r : ReadReport),
    s.ctl.picker.cmd = some (.read e) → s.ctl.picker.phase = .scanning (e :: e2 :: rest) → s.ctl.picker.running = some o → Answered s.ctl →
    (o.kind = .audit ∧ (∃ m, o.source = .magazine m) ∨ o.kind = .scanAll ∧ s.ctl.scanSkips o e = false ∧ s.ctl.scanSkips o e2 = false) →
    let k := s.ctl
    let waits := if o.role = .powerUpScan then 0 else k.climate.acclimation
    let found : Label → Option Entry := fun l => some { label := some l, home := Machine.Element.homeOf e, acclim := waits, tab := .unknown }
    let provisional : Label := 0x3F#8 :: e.name
    ∃ t, exec (.readDone r) s = .next (s.withCtl t)
      ∧ t.motion = { k.motion with cmd := some (.read e2), phase := .scanning (e2 :: rest) } ∧ t.standing = k.standing
      ∧ (∀ x, x ≠ e → t.elem x = k.elem x)
      ∧ (r = .noCartridge → t.elem e = { k.elem e with occ := .empty, entry := none } ∧ t.cat = k.cat)
      ∧ (∀ l, k.labelAt e = some l → k.standsElsewhere l e = false → r = .label l ∧ readableLabel l = true ∨ r = .unreadable →
          t.elem e = { k.elem e with occ := .full } ∧ t.cat = k.cat.modCart l (fun c => { c with loc := some e }))
      ∧ (∀ l, r = .label l → readableLabel l = true → k.labelAt e ≠ some l → k.standsElsewhere l e = false →
          t.elem e = { k.elem e with occ := .full, entry := found l })
      ∧ (∀ l, r = .label l → readableLabel l = true → k.standsElsewhere l e = true → k.standsElsewhere provisional e = false →
          t.elem e = { k.elem e with occ := .full, entry := found provisional } ∧ t.cat = k.cat
            ∧ t.links = (k.notifyAll (.duplicateLabel l e)).links ∧ t.panel = (k.notifyAll (.duplicateLabel l e)).panel)
      ∧ (r = .unreadable → (∀ l, k.labelAt e = some l → k.standsElsewhere l e = true) → k.standsElsewhere provisional e = false →
          t.elem e = { k.elem e with occ := .full, entry := found provisional } ∧ t.cat = k.cat))
  ∧ (∀ (s : State) (o : Order) (e : Element), s.ctl.picker.cmd = some (.read e) → s.ctl.picker.phase = .scanning [e] → s.ctl.picker.running = some o → Answered s.ctl →
    s.ctl.picker.held = [] → (∀ c, s.ctl.session c = none ∧ (s.ctl.chan c).drain = none) → s.ctl.restore.running = [] → s.ctl.verify.queue = [] →
    (∀ m, (s.ctl.door m).state ≠ .asking) →
    let k := s.ctl
    let ended : Ctl → Prop := fun t => t.picker.queue = (k.picker.queue.filter fun x => x.id ≠ o.id)
      ∧ t.motion = { k.motion with state := .idle, cmd := none, phase := .idle } ∧ t.standing = k.standing
    (∀ m, o.kind = .audit → o.source = .magazine m → ∃ t, exec (.readDone .noCartridge) s = .next (s.withCtl t) ∧ ended t
        ∧ t.inv.doors = k.inv.doors.set m .initial ∧ t.elem e = { k.elem e with occ := .empty, entry := none } ∧ (∀ x, x ≠ e → t.elem x = k.elem x)
        ∧ t.links = (k.notifyAll (.door m .locked .ok)).links ∧ t.panel = (k.notifyAll (.door m .locked .ok)).panel
        ∧ t.cat.sets = k.cat.sets ∧ t.cat.carts = k.cat.carts.map fun c =>
            let missing : Bool := match c.loc with
              | some x => decide (x.mag = some m ∧ t.labelAt x ≠ some c.label) || decide ((x = .gripper ∨ x = .mail) ∧ (t.elem x).occ = .uncertain)
              | none => false
            if missing = true then { c with loc := none } else c)
    ∧ (o.kind = .scanAll → e = .mail → k.inv.mail.forced = false → (∀ c, (k.tr c).present = false) → (k.elem .gripper).occ = .empty →
        ∃ t, exec (.readDone .noCartridge) s = .next (s.withCtl t) ∧ ended t ∧ t.inv.doors = k.inv.doors ∧ t.links = k.links ∧ t.panel = k.panel
        ∧ (∀ x, t.elem x = if x = .mail ∨ x = .transport .c0 ∨ x = .transport .c1 then { k.elem x with occ := .empty, entry := none } else k.elem x)
        ∧ t.cat.sets = k.cat.sets ∧ t.cat.carts = k.cat.carts.map fun c =>
            let missing : Bool := match c.loc with
              | some x => (t.findLabel c.label).isNone && decide (x ∉ k.picker.passed) && decide (t.labelAt x ≠ some c.label)
              | none => false
            if missing = true then { c with loc := none } else c))

/-- R33, R37, R38: GRIP_FAULT of a FETCH or a PUT, an order's or a put-back's, is tried again twice; the third, PATH_BLOCKED, a report that R33 does not list for the
command outstanding, which counts as PATH_BLOCKED, and the 60 s timer make the picker FAULTED with no command outstanding and its reason kept, and every requester is
told; a report that answers no command is discarded. With no order being carried out nothing else changes. A MOVE, LOAD or UNLOAD that was being carried out leaves the
queue, with MOVE_FAILED and the reason to its requester, and leaves every element as the last report showed it; here the order is none of an import or export and, if a
LOAD, of no activity, and nothing follows its departure. An AUDIT or SCAN_ALL leaves the queue and is held again as an offer, but for an AUDIT that a reopened door has
stopped. What the next HOME needs is kept (R40): the failed order's source, its requester and where its PUT was going, the source again for a put-back; of a failed
put-back of HOME, or of SCAN_ALL's putting away, where it was going. -/
def Obligations.PickerFaults : Prop :=
  ∀ s : State, Answered s.ctl →
    let k := s.ctl
    let gripping : Prop := ∃ e, k.picker.cmd = some (.fetch e) ∨ k.picker.cmd = some (.put e)
    let unlisted : Instr → Prop := fun i =>
      ((∃ rd, i = .fetchDone rd) ∨ i = .fetchEmpty) ∧ (∀ e, k.picker.cmd ≠ some (.fetch e)) ∨ i = .putDone ∧ (∀ e, k.picker.cmd ≠ some (.put e))
        ∨ (∃ rd, i = .readDone rd) ∧ (∀ e, k.picker.cmd ≠ some (.read e)) ∨ (∃ h h', i = .homeDone h h') ∧ k.picker.cmd ≠ some .home ∨ i = .gripFault ∧ ¬gripping
    let old := k.picker.failed.getD { source := none, putDest := none, requester := none }
    (∀ i : Instr, i = .pathBlocked ∨ i = .commandTimerExpiry ∨ unlisted i → k.picker.cmd = none → exec i s = .next s)
    ∧ (∀ o, gripping → k.picker.running = some o → o.retry < 2 → exec .gripFault s = .next (s.withCtl { k with picker := { k.picker with
        queue := k.picker.queue.map fun x => if x.id = o.id then { x with retry := x.retry + 1 } else x } }))
    ∧ (gripping → k.picker.running = none → k.picker.homeRetry < 2 →
        exec .gripFault s = .next (s.withCtl { k with picker := { k.picker with homeRetry := k.picker.homeRetry + 1 } }))
    ∧ ∀ (i : Instr) (r : Code),
        (i = .pathBlocked ∨ unlisted i) ∧ r = .pathBlocked ∧ k.picker.cmd ≠ none ∨ i = .commandTimerExpiry ∧ r = .timeout ∧ k.picker.cmd ≠ none
          ∨ i = .gripFault ∧ r = .gripFault ∧ gripping ∧ (∀ o, k.picker.running = some o → 2 ≤ o.retry) ∧ (k.picker.running = none → 2 ≤ k.picker.homeRetry) →
        ∃ t, exec i s = .next (s.withCtl t)
          ∧ t.picker.state = .faulted ∧ t.picker.lastFault = some r ∧ t.picker.cmd = none ∧ t.picker.phase = .idle ∧ t.standing = k.standing
          ∧ (∀ d, k.picker.running = none → k.picker.phase = .homePutBack d → t.picker.failed = some { old with putDest := some d })
          ∧ (k.picker.running = none → (∀ d, k.picker.phase ≠ .homePutBack d ∧ k.picker.phase ≠ .scanGripPut d) → t.picker.failed = k.picker.failed)
          ∧ (∀ o, k.picker.running = some o → (∀ d, k.picker.phase ≠ .homePutBack d ∧ k.picker.phase ≠ .scanGripPut d) →
              t.picker.failed = if o.kind = .audit ∨ o.kind = .scanAll then none else some { source := o.source.element?, requester := o.requester, putDest := match k.picker.phase with
                | .putting d => some d
                | .puttingBack => o.source.element?
                | _ => none })
          ∧ (∀ d, k.picker.phase = .scanGripPut d → t.picker.failed = some { source := none, putDest := some d, requester := none })
          ∧ (k.picker.running = none → SameInside { k with picker := t.picker } t ∧ t.picker.queue = k.picker.queue
              ∧ t.links = (k.notifyAll (.pickerFaulted r)).links ∧ t.panel = (k.notifyAll (.pickerFaulted r)).panel)
          ∧ ∀ o, k.picker.running = some o → LeavesQuietly k →
            let left := k.picker.queue.filter fun x => x.id ≠ o.id
            (o.kind = .move ∨ o.kind = .unload ∨ o.kind = .load ∧ o.raisedBy = none → o.role = .plain →
              SameInside { k with picker := t.picker } t ∧ t.picker.queue = left ∧ t.picker.auditOffers = k.picker.auditOffers
              ∧ t.links = ((k.notifyOpt o.requester (.moveFailed o.id r)).notifyAll (.pickerFaulted r)).links
              ∧ t.panel = ((k.notifyOpt o.requester (.moveFailed o.id r)).notifyAll (.pickerFaulted r)).panel)
            ∧ (o.kind = .audit ∨ o.kind = .scanAll → SameInside { k with picker := t.picker } t ∧ t.picker.queue = left
              ∧ t.picker.auditOffers = k.picker.auditOffers ++ (if o.kind = .audit ∧ k.picker.phase = .scanStopped then [] else [{ o with state := .ready, retry := 0 }])
              ∧ t.links = (k.notifyAll (.pickerFaulted r)).links ∧ t.panel = (k.notifyAll (.pickerFaulted r)).panel)

/-! ## Climate (chapter 3) -/

/-- R47, R51, R52: SET_WATCH replaces the five settings of its watch, with the threshold clamped to the quantity's range and returned, clears the watch's result, reports
the change, restarts sampling with this watch first and judges the hold again. A value outside its list is BAD_ARGUMENT. R48, R51, R52: SET_CLIMATE_INTERVAL stores the
value clamped to 1 to 60 and returns it, clears both results, reports the change, restarts sampling with W1 first and judges the hold again. After the answer every
requester is told SENSOR_FAULT(0) where the fail-safe hold went off with the last watch (R50), then HOLD with its cause where the hold changed, and nothing else. -/
def Obligations.ClimateSettingsStored : Prop :=
  let ended : Climate → Climate → List Notice := fun d c => if c.failSafe = true ∧ d.failSafe = false then [.sensorFault 0] else []
  (∀ (s : State) (p : Requester) (q : QueuedReq) (w en qn : Nat) (thr : Int) (dir act : Nat), AtHead s p q (.setWatch w en qn thr dir act) →
      (1 < w ∨ 1 < en ∨ 1 < qn ∨ 1 < dir ∨ 1 < act → exec (.setWatch p w en qn thr dir act) s = .next (s.withCtl (s.ctl.afterAnswer p q .badArgument)))
      ∧ (w ≤ 1 → en ≤ 1 → qn ≤ 1 → dir ≤ 1 → act ≤ 1 →
        let id : WatchId := if w = 0 then .w1 else .w2
        let x : Watch := { enabled := decide (en = 0), quantity := if qn = 0 then .temperature else .humidity,
                           threshold := if qn = 0 then max (-40) (min 140 thr) else max 0 (min 100 thr),
                           direction := if dir = 0 then .above else .below, action := if act = 0 then .notify else .hold }
        ∃ t, exec (.setWatch p w en qn thr dir act) s = .next (s.withCtl t) ∧ SameButClimate s.ctl t ∧ t.store = s.ctl.store.noteChange
          ∧ t.climate.watches = s.ctl.climate.watches.set id x ∧ t.climate.results = s.ctl.climate.results.set id { valid := false, crossed := false }
          ∧ t.climate.interval = s.ctl.climate.interval ∧ ClimateRestarted s.ctl.climate t.climate id
          ∧ (let k' := (s.ctl.afterAnswer p q .ok (.threshold x.threshold)).tellAll (ended t.climate s.ctl.climate ++ t.climate.holdTold s.ctl.climate.hold)
             t.links = k'.links ∧ t.panel = k'.panel)))
  ∧ (∀ (s : State) (p : Requester) (q : QueuedReq) (n : Nat), AtHead s p q (.setClimateInterval n) →
      ∃ t, exec (.setClimateInterval p n) s = .next (s.withCtl t) ∧ SameButClimate s.ctl t ∧ t.store = s.ctl.store.noteChange
        ∧ t.climate.interval = max 1 (min 60 n) ∧ t.climate.watches = s.ctl.climate.watches
        ∧ t.climate.results = ⟨{ valid := false, crossed := false }, { valid := false, crossed := false }⟩
        ∧ ClimateRestarted s.ctl.climate t.climate .w1
        ∧ (let k' := (s.ctl.afterAnswer p q .ok (.setting (max 1 (min 60 n)))).tellAll (ended t.climate s.ctl.climate ++ t.climate.holdTold s.ctl.climate.hold)
           t.links = k'.links ∧ t.panel = k'.panel))

/-- R54: the acclimation setting is 60 at first, is kept in the store's image, and is replaced by SET_ACCLIMATION's value clamped to 0 to 240, which the answer carries;
the change is reported to the store. Nothing else changes, so counts already running are left as they are. R56: CLEAR_ACCLIMATION is the panel's. With the key in LOCK
it is KEY_LOCKED; a label that no element holds, UNCERTAIN ones apart, is NOT_FOUND; otherwise the entry's acclimation remaining becomes 0, and nothing else changes, the store included. R55:
at each expiry of the minute timer every entry's acclimation remaining above 0 is reduced by 1, whatever its element's occupancy, and nothing else changes. That the count of a cartridge the picker
looks for after a HOME goes on too is the model's reading (Section 3.8). -/
def Obligations.AcclimationCounts : Prop :=
  (State.reset.ctl.climate.acclimation = 60
      ∧ (∀ k : Ctl, k.image.acclimation = k.climate.acclimation)
      ∧ (∀ st : Store, st.state = .clean → st.noteChange = { st with state := .dirty })
      ∧ ∀ (s : State) (p : Requester) (q : QueuedReq) (n : Nat), AtHead s p q (.setAcclimation n) →
          exec (.setAcclimation p n) s = .next (s.withCtl
            { s.ctl.afterAnswer p q .ok (.setting (min 240 n)) with
              climate := { s.ctl.climate with acclimation := min 240 n }, store := s.ctl.store.noteChange }))
  ∧ (∀ (s : State) (p : Requester) (q : QueuedReq) (l : Label), AtHead s p q (.clearAcclimation l) →
      exec (.clearAcclimation p l) s = .next (s.withCtl
        (if p ≠ .panel then s.ctl.afterAnswer p q .notPermitted
         else if s.ctl.inv.key = .lock then s.ctl.afterAnswer p q .keyLocked
         else
           match s.ctl.findLabel l with
           | none => s.ctl.afterAnswer p q .notFound
           | some e =>
             (s.ctl.afterAnswer p q .ok).setElem e { s.ctl.elem e with entry := (s.ctl.elem e).entry.map fun x => { x with acclim := 0 } }))
      ∧ (∀ e, s.ctl.findLabel l = some e → (s.ctl.elem e).occ ≠ .uncertain ∧ (s.ctl.elem e).entry.bind (·.label) = some l)
      ∧ (s.ctl.findLabel l = none → ∀ e, (s.ctl.elem e).occ ≠ .uncertain → (s.ctl.elem e).entry.bind (·.label) ≠ some l))
  ∧ (∀ s : State, ∃ t, exec .minuteTimerExpiry s = .next (s.withCtl t)
      ∧ (∀ e : Element, (t.elem e).occ = (s.ctl.elem e).occ ∧ (t.elem e).reserved = (s.ctl.elem e).reserved
          ∧ ((s.ctl.elem e).entry = none → (t.elem e).entry = none)
          ∧ ∀ x, (s.ctl.elem e).entry = some x → (t.elem e).entry = some { x with acclim := if 0 < x.acclim then x.acclim - 1 else 0 })
      ∧ t.picker.carried = s.ctl.picker.carried.map (fun x => { x with acclim := if 0 < x.acclim then x.acclim - 1 else 0 })
      ∧ t = { s.ctl with inv := { s.ctl.inv with elements := t.inv.elements }, picker := { s.ctl.picker with carried := t.picker.carried } })

/-- R48, R46: in RUNNING the sample interval's expiry starts a reading of the next watch; else it starts none. That an interval which expires while a reading is in
progress puts the next reading in its place is the model's choice (assumption 33). An answer or a silence with no reading in progress is discarded. R46, R50: a reading
that is not acknowledged, is silent for 500 ms, or is out of range fails: the watch's result is cleared, the failure count rises to 255 at most, the fail-safe hold comes
on when the count has just reached 3, and the next watch advances. The last readings stay. Every requester is told SENSOR_FAULT(3) where the count has just reached 3,
then HOLD with its cause where the hold changed (R52), and nothing else. -/
def Obligations.ReadingsStartAndFail : Prop :=
  (∀ s : State,
      exec .sampleIntervalExpiry s = .next (s.withCtl
        (if s.ctl.climate.sampling = .running then { s.ctl with climate := { s.ctl.climate with reading := some s.ctl.climate.next } } else s.ctl))
      ∧ (s.ctl.climate.reading = none → exec .sensorNoAnswer s = .next s ∧ ∀ r, exec (.sensorAnswer r) s = .next s))
  ∧ (∀ (s : State) (w : WatchId) (i : Instr), s.ctl.climate.reading = some w →
      (i = .sensorNoAnswer ∨ i = .sensorAnswer .noAcknowledge ∨ ∃ v, i = .sensorAnswer (.value v) ∧
        (match (s.ctl.climate.watches.get w).quantity with
          | .temperature => v < -40 ∨ 140 < v
          | .humidity => v < 0 ∨ 100 < v)) →
      let reached : Bool := decide (s.ctl.climate.failures = 2)
      ∃ t, exec i s = .next (s.withCtl t) ∧ SameButClimate s.ctl t ∧ t.store = s.ctl.store
        ∧ t.climate = { s.ctl.climate with
            results := s.ctl.climate.results.set w { valid := false, crossed := false }
            reading := none, failures := min (s.ctl.climate.failures + 1) 255, failSafe := s.ctl.climate.failSafe || reached
            next := if (s.ctl.climate.watches.get w.other).enabled = true then w.other else w
            hold := t.climate.hold }
        ∧ t.climate.hold = t.climate.holdDue
        ∧ (let k' := s.ctl.tellAll ((if reached = true then [.sensorFault 3] else []) ++ t.climate.holdTold s.ctl.climate.hold)
           t.links = k'.links ∧ t.panel = k'.panel))

/-- R46, R49, R50: a value in range ends the reading. It becomes the quantity's last reading with age 0, the failures end, and it is compared: a crossing latches the
result and suspends sampling, anything else leaves sampling as it was; the next watch becomes the other one if that is enabled, and the hold is judged. That with a single
enabled watch the next one stays the same over a crossing too, where R48 speaks for both, is the model's choice (assumption 54). Every requester is told SENSOR_FAULT(0)
where the fail-safe hold was on, HOLD where the hold ends with it, CLIMATE with the watch, its quantity and the value for a crossing, and HOLD where the comparison
changes the hold (R52), in this order, and nothing else. -/
def Obligations.ReadingCompared : Prop :=
  ∀ (s : State) (w : WatchId) (v : Int), s.ctl.climate.reading = some w →
    let x := s.ctl.climate.watches.get w
    (match x.quantity with
      | .temperature => -40 ≤ v ∧ v ≤ 140
      | .humidity => 0 ≤ v ∧ v ≤ 100) →
    let crossed : Bool := match x.direction with
      | .above => decide (x.threshold < v)
      | .below => decide (v < x.threshold)
    ∃ t, exec (.sensorAnswer (.value v)) s = .next (s.withCtl t) ∧ SameButClimate s.ctl t ∧ t.store = s.ctl.store
      ∧ t.climate.watches = s.ctl.climate.watches ∧ t.climate.interval = s.ctl.climate.interval ∧ t.climate.acclimation = s.ctl.climate.acclimation
      ∧ t.climate.reading = none ∧ t.climate.failures = 0 ∧ t.climate.failSafe = false
      ∧ t.climate.results = s.ctl.climate.results.set w { valid := true, crossed := crossed }
      ∧ t.climate.sampling = (if crossed = true then .suspended else s.ctl.climate.sampling)
      ∧ t.climate.next = (if (s.ctl.climate.watches.get w.other).enabled = true then w.other else w)
      ∧ (match x.quantity with
          | .temperature => t.climate.lastTemperature = some { value := v, age := 0 } ∧ t.climate.lastHumidity = s.ctl.climate.lastHumidity
          | .humidity => t.climate.lastHumidity = some { value := v, age := 0 } ∧ t.climate.lastTemperature = s.ctl.climate.lastTemperature)
      ∧ t.climate.hold = t.climate.holdDue
      ∧ (let c := { s.ctl.climate with failSafe := false }
         let before := { c with hold := c.holdDue }
         let k' := s.ctl.tellAll ((if s.ctl.climate.failSafe = true then [.sensorFault 0] else []) ++ before.holdTold s.ctl.climate.hold
           ++ (if crossed = true then [.climate w x.quantity v] else []) ++ t.climate.holdTold before.hold)
         t.links = k'.links ∧ t.panel = k'.panel)

/-- The law of the Climate Monitor holds right after reset. -/
def Obligations.ClimateLawAtReset : Prop := State.reset.ctl.climate.Law

/-- Every command, and the tick of an empty queue, keeps the law of the Climate Monitor, whatever else the state holds. That the next watch is an enabled one while sampling is
SUSPENDED too rests on the model's choice for a crossing with a single enabled watch (assumption 54). -/
def Obligations.ClimateLawKept : Prop := ∀ s t : State, s.ctl.climate.Law → step s = .next t → t.ctl.climate.Law

/-! ## The catalog and the dictionaries (chapters 4 and 5), and what a read returns -/

/-- The read requests are answered from what the block holds, and change nothing else: READ_INVENTORY (R10), READ_QUEUE (R42), READ_CLIMATE (R53), READ_CARTRIDGE (R75),
READ_SET (R76), LIST_SETS (R77), READ_DICTIONARY (R83), READ_VERIFY (R152) and READ_STORE. READ_INVENTORY answers all 28
elements that R1 lists, where R1 and R10 speak of 27: the model's choice (assumption 5). A LIST_SETS with a filter that is refused, and a READ_SET of an unknown set, are
answered so whatever the start id or the first index (assumption 56, DESIGN CHOICE). -/
def Obligations.ReadsAnswer : Prop :=
  ∀ (s : State) (p : Requester) (q : QueuedReq),
    let k := s.ctl
    let answered : Code → Result → Host.Outcome State Fault Refusal := fun (code : Code) (r : Result) => .next (s.withCtl (k.afterAnswer p q code r))
    (∀ n, AtHead s p q (.readInventory n) → exec (.readInventory p n) s =
      match Element.ofId n with
      | none => answered .badArgument .none
      | some e => answered .ok (.inventory
          { element := e, contents := k.elem e, cls := ((k.elem e).entry.bind (·.label)).map classOf
            catalogued := ((k.elem e).entry.bind (·.label)).any fun l => k.cat.carts.any fun c : Cart => decide (c.label = l)
            door := e.mag.map fun m => (k.door m).state, mail := k.inv.mail.state, key := k.inv.key, protect := k.inv.protect
            isProtected := match e with
              | .slot i => k.inv.protect.covers i
              | _ => false }))
    ∧ (AtHead s p q .readQueue → exec (.readQueue p) s = answered .ok (.queue
        { state := k.picker.state, cmd := if k.picker.state = .busy then k.picker.cmd else none
          fault := if k.picker.state = .faulted then k.picker.lastFault else none
          gripper := (k.elem .gripper).occ, gripperLabel := (k.elem .gripper).entry.bind (·.label)
          orders := k.picker.queue.map fun o =>
            { id := o.id, requester := o.requester, internal := o.internal, kind := o.kind, source := o.source, dest := o.dest, state := k.shownState o, retry := o.retry }
          held := k.picker.held.length + k.picker.auditOffers.length }))
    ∧ (AtHead s p q .readClimate → exec (.readClimate p) s = answered .ok (.climate
        { temperature := k.climate.lastTemperature, humidity := k.climate.lastHumidity, watches := k.climate.watches, results := k.climate.results
          sampling := k.climate.sampling, next := k.climate.next, interval := k.climate.interval, failures := k.climate.failures
          failSafe := k.climate.failSafe, hold := k.climate.hold, acclimation := k.climate.acclimation }))
    ∧ (∀ l, AtHead s p q (.readCartridge l) → exec (.readCartridge p l) s =
        match k.cat.carts.find? (fun c : Cart => decide (c.label = l)) with
        | none => answered .notFound .none
        | some c => answered .ok (.cartridge c (classOf c.label) (ratio c.native c.coded) c.estimate))
    ∧ (∀ n part, AtHead s p q (.readSet n part) → exec (.readSet p n part) s =
        match k.cat.sets.find? (fun r : SetRec => decide (r.id = n)), part with
        | none, _ => answered .notFound .none
        | some r, .summary => answered .ok (.setSummary
            { id := r.id, owner := r.owner, state := r.state, writtenDay := r.writtenDay, retention := r.retention, dict := r.dict, dictGen := r.dictGen
              extents := r.extents, blocks := r.blocks, records := r.records, native := r.native, coded := r.coded, ratio := ratio r.native r.coded
              indexPoints := r.index.length, interval := r.interval, verify := r.verify, passes := r.passes, bad := r.bad, badList := r.badList, badMore := r.badMore })
        | some r, .index first =>
          if 63 < first then answered .badArgument .none else answered .ok (.setIndex ((r.index.drop first).take 16) r.index.length)
        | some _, .other _ => answered .badArgument .none)
    ∧ (∀ f start (ids : List Nat), AtHead s p q (.listSets f start) →
        (match f with
          | .all => ids = k.cat.sets.map (·.id)
          | .owner n => ∃ l, linkOf n = some l ∧ ids = (k.cat.sets.filter fun r => r.owner = l).map (·.id)
          | .cartridge l => ∃ c, k.cat.cart? l = some c ∧ ids = (k.cat.sets.filter fun r => r.id ∈ c.sets).map (·.id)
          | .other _ => False) →
        exec (.listSets p f start) s =
          if 65535 < start then answered .badArgument .none
          else answered .ok (.setIds ((ids.filter fun i => max 1 start ≤ i).take 16) (decide (16 < (ids.filter fun i => max 1 start ≤ i).length))))
    ∧ (∀ f start, AtHead s p q (.listSets f start) → ((∃ n, f = .owner n ∧ 1 < n) ∨ ∃ n, f = .other n) → exec (.listSets p f start) s = answered .badArgument .none)
    ∧ (∀ l start, AtHead s p q (.listSets (.cartridge l) start) → k.cat.cart? l = none → exec (.listSets p (.cartridge l) start) s = answered .notFound .none)
    ∧ (∀ n, AtHead s p q (.readDictionary n) → exec (.readDictionary p n) s =
        if 3 < n then answered .badArgument .none
        else answered .ok (.dictionary (k.dicts.gen n) (k.dicts.contents n).length (k.dicts.contents n)
          (decide (n ≠ 0) && k.cat.sets.any fun r => decide (r.dict = n ∧ r.dictGen = k.dicts.gen n ∧ r.state ≠ .expired))))
    ∧ (AtHead s p q .readVerify → exec (.readVerify p) s = answered .ok (.verify k.verify.policies k.verify.skips (k.verify.queue.map VerifyEntry.shown)))
    ∧ (AtHead s p q .readStore → exec (.readStore p) s =
        answered .ok (.store k.store.state k.store.pending k.store.auto (k.store.recovery.map (·.label))))

/-- R71, and of R70 the answers and the change of a set with no verify entry: the first check that fails answers EXPIRE_SET and SET_RETENTION. A set that no verify entry stands for becomes EXPIRED with its retention run out, or
by the panel's override with the key OPEN, and an auto-checkpoint follows; a retention becomes the days clamped to 3,650, shortened by the panel alone. -/
def Obligations.RetentionAnswers : Prop :=
  ∀ (s : State) (p : Requester) (q : QueuedReq) (n : Nat),
    let may : SetRec → Prop := fun r => p = .panel ∨ p = .link r.owner
    (∀ today, AtHead s p q (.expireSet n today) →
      (s.ctl.cat.set? n = none → Answered s.ctl → exec (.expireSet p n today) s = .next (s.withCtl (s.ctl.afterAnswer p q .notFound)))
      ∧ ∀ r, s.ctl.cat.set? n = some r →
        let out := r.writtenDay + r.retention ≤ today
        let code : Code :=
          if ¬may r then .notOwner
          else if r.state = .opening ∨ r.state = .writing then .wrongState
          else if r.state = .expired then .ok
          else if s.ctl.setRestoring n = true then .inUse
          else if out then .ok
          else if p ≠ .panel then .retentionHeld
          else if s.ctl.inv.key = .lock then .keyLocked
          else .ok
        (code ≠ .ok ∨ r.state = .expired → Answered s.ctl → exec (.expireSet p n today) s = .next (s.withCtl (s.ctl.afterAnswer p q code)))
        ∧ (code = .ok → r.state ≠ .expired → s.ctl.verifyOf n = none → Answered s.ctl →
            exec (.expireSet p n today) s = .next (s.withCtl
              ({ s.ctl.afterAnswer p q .ok with
                 cat := { s.ctl.cat with sets := s.ctl.cat.sets.map fun r : SetRec => if r.id = n then { r with state := .expired } else r }
                 store := s.ctl.store.noteChange }.autoCheckpoint))))
    ∧ ∀ days, AtHead s p q (.setRetention n days) →
        (s.ctl.cat.set? n = none → exec (.setRetention p n days) s = .next (s.withCtl (s.ctl.afterAnswer p q .notFound)))
        ∧ ∀ r, s.ctl.cat.set? n = some r →
          let d := min days 3650
          (¬may r → exec (.setRetention p n days) s = .next (s.withCtl (s.ctl.afterAnswer p q .notOwner)))
          ∧ (may r → r.state = .expired → exec (.setRetention p n days) s = .next (s.withCtl (s.ctl.afterAnswer p q .setExpired)))
          ∧ (may r → r.state ≠ .expired → d < r.retention → (p ≠ .panel ∨ s.ctl.inv.key = .lock) →
              exec (.setRetention p n days) s = .next (s.withCtl
                (s.ctl.afterAnswer p q (if p = .panel then .keyLocked else .retentionHeld) (.stored r.retention))))
          ∧ (may r → r.state ≠ .expired → d = r.retention →
              exec (.setRetention p n days) s = .next (s.withCtl (s.ctl.afterAnswer p q .ok (.stored d))))
          ∧ (may r → r.state ≠ .expired → (r.retention < d ∨ d < r.retention ∧ p = .panel ∧ s.ctl.inv.key = .opened) →
              exec (.setRetention p n days) s = .next (s.withCtl
                { s.ctl.afterAnswer p q .ok (.stored d) with
                  cat := { s.ctl.cat with sets := s.ctl.cat.sets.map fun r : SetRec => if r.id = n then { r with retention := d } else r }
                  store := s.ctl.store.noteChange }))

/-- R72, R73, R74: the first condition that holds answers RECLAIM and FORGET_CARTRIDGE with no change. A cartridge OUTSIDE the library has no entry, so it is not
protected, and it is in use only by an activity. A reclaimed cartridge has an empty record of the next generation, in state SCRATCH; the sessions that wait choose again
and an auto-checkpoint follows. A forgotten one has no record any more, and a waiting cartridge is admitted. Either way each set of its list, all of them EXPIRED, loses
its extents on the cartridge and their blocks, one left with no extent is deleted from the catalog and from the other cartridges' lists, and every other set and record
stays. -/
def Obligations.CartridgeRequestsAnswered : Prop :=
  ∀ (s : State) (p : Requester) (q : QueuedReq) (l : Label),
    let dropped : Cart → Catalog → Prop := fun c cat => cat.nextSetId = s.ctl.cat.nextSetId
      ∧ (∀ n, n ∉ c.sets → cat.set? n = s.ctl.cat.set? n)
      ∧ (∀ n r, n ∈ c.sets → s.ctl.cat.set? n = some r →
          cat.set? n = if (∀ e ∈ r.extents, e.label = l) then none else
            some { r with extents := r.extents.filter fun e => e.label ≠ l
                          blocks := r.blocks - ((r.extents.filter fun e => e.label = l).map (·.count)).sum })
      ∧ ∀ l', l' ≠ l → cat.cart? l' = (s.ctl.cat.cart? l').map fun c' =>
          { c' with sets := c'.sets.filter fun n => !(decide (n ∈ c.sets) && (s.ctl.cat.set? n).isSome && (cat.set? n).isNone) }
    (∀ c, s.ctl.cat.cart? l = some c → c.loc = none → s.ctl.findLabel l = none →
      s.ctl.entryProtected (s.ctl.entryOf l) = false ∧ s.ctl.inUse l = s.ctl.usedByActivity l)
    ∧ (AtHead s p q (.reclaim l) →
      (s.ctl.cat.cart? l = none → exec (.reclaim p l) s = .next (s.withCtl (s.ctl.afterAnswer p q .notFound)))
      ∧ ∀ c, s.ctl.cat.cart? l = some c →
        let held := ∃ n ∈ c.sets, ∃ r, s.ctl.cat.set? n = some r ∧ r.state ≠ .expired
        let unsure := c.state = .unknown ∧ ¬(p = .panel ∧ s.ctl.inv.key = .opened)
        (c.state = .blank ∨ c.state = .scratch → exec (.reclaim p l) s = .next (s.withCtl (s.ctl.afterAnswer p q .wrongState)))
        ∧ (c.state ≠ .blank → c.state ≠ .scratch → s.ctl.entryProtected (s.ctl.entryOf l) = true →
            exec (.reclaim p l) s = .next (s.withCtl (s.ctl.afterAnswer p q .isProtected)))
        ∧ (c.state ≠ .blank → c.state ≠ .scratch → s.ctl.entryProtected (s.ctl.entryOf l) = false → s.ctl.inUse l = true →
            exec (.reclaim p l) s = .next (s.withCtl (s.ctl.afterAnswer p q .inUse)))
        ∧ (c.state ≠ .blank → c.state ≠ .scratch → s.ctl.entryProtected (s.ctl.entryOf l) = false → s.ctl.inUse l = false → held →
            exec (.reclaim p l) s = .next (s.withCtl (s.ctl.afterAnswer p q .retentionHeld)))
        ∧ (c.state ≠ .blank → c.state ≠ .scratch → s.ctl.entryProtected (s.ctl.entryOf l) = false → s.ctl.inUse l = false → ¬held → unsure →
            exec (.reclaim p l) s = .next (s.withCtl (s.ctl.afterAnswer p q .keyLocked)))
        ∧ (c.state ≠ .blank → c.state ≠ .scratch → s.ctl.entryProtected (s.ctl.entryOf l) = false → s.ctl.inUse l = false → ¬unsure → c.sets = [] →
            exec (.reclaim p l) s = .next (s.withCtl
              { s.ctl.afterAnswer p q .ok with
                cat := { s.ctl.cat with carts := s.ctl.cat.carts.map fun c : Cart => if c.label = l then
                  { c with sets := [], generation := if 65535 ≤ c.generation then 1 else c.generation + 1, frames := 0, eod := 1, early := false, native := 0,
                           coded := 0, state := .scratch } else c }
                store := s.ctl.store.noteChange }.rechooseAll.autoCheckpoint))
        ∧ (c.state ≠ .blank → c.state ≠ .scratch → s.ctl.entryProtected (s.ctl.entryOf l) = false → s.ctl.inUse l = false → ¬unsure → ¬held → ∃ cat : Catalog,
            exec (.reclaim p l) s = .next (s.withCtl { s.ctl.afterAnswer p q .ok with cat := cat, store := s.ctl.store.noteChange }.rechooseAll.autoCheckpoint)
            ∧ dropped c cat ∧ cat.cart? l = some
                { c with sets := [], generation := if 65535 ≤ c.generation then 1 else c.generation + 1, frames := 0, eod := 1, early := false, native := 0,
                         coded := 0, state := .scratch }))
    ∧ (AtHead s p q (.forgetCartridge l) → p = .panel →
      (s.ctl.cat.cart? l = none → exec (.forgetCartridge p l) s = .next (s.withCtl (s.ctl.afterAnswer p q .notFound)))
      ∧ ∀ c, s.ctl.cat.cart? l = some c →
        let held := ∃ n ∈ c.sets, ∃ r, s.ctl.cat.set? n = some r ∧ r.state ≠ .expired
        (c.loc ≠ none → exec (.forgetCartridge p l) s = .next (s.withCtl (s.ctl.afterAnswer p q .wrongState)))
        ∧ (c.loc = none → held → exec (.forgetCartridge p l) s = .next (s.withCtl (s.ctl.afterAnswer p q .retentionHeld)))
        ∧ (c.loc = none → c.sets = [] → exec (.forgetCartridge p l) s = .next (s.withCtl
            ({ s.ctl.afterAnswer p q .ok with
               cat := { s.ctl.cat with carts := s.ctl.cat.carts.filter fun c => c.label ≠ l }, store := s.ctl.store.noteChange }.admitWaiting)))
        ∧ (c.loc = none → ¬held → ∃ cat : Catalog,
            exec (.forgetCartridge p l) s = .next (s.withCtl { s.ctl.afterAnswer p q .ok with cat := cat, store := s.ctl.store.noteChange }.admitWaiting)
            ∧ dropped c cat ∧ cat.cart? l = none))

/-- R82: WRITE_DICTIONARY is NOT_PERMITTED from the panel; from a link it refuses slot 0, a slot above 3 and more than 1,024 bytes with BAD_ARGUMENT, and a slot that a set references at its generation with
DICTIONARY_IN_USE. Otherwise the slot holds the bytes, its generation goes up by one, wrapping from 255 to 0, the answer carries it, and the change is reported to the
store; the other slots stay. The law of dictionaries, over every command but the loads of the image at power-up and RELOAD: a slot that a set which is not EXPIRED references at its
generation keeps its contents and its generation. -/
def Obligations.DictionaryWritten : Prop :=
  (∀ (s : State) (l : Link) (q : QueuedReq) (n : Nat) (bs : List Byte), AtHead s (.link l) q (.writeDictionary n bs) →
    let x := fun d => exec (.writeDictionary (.link l) n bs) s = .next (s.withCtl d)
    let g := (s.ctl.dicts.gen n + 1) % 256
    (n = 0 ∨ 3 < n ∨ 1024 < bs.length → x (s.ctl.afterAnswer (.link l) q .badArgument))
    ∧ (1 ≤ n → n ≤ 3 → bs.length ≤ 1024 →
      ((∃ r ∈ s.ctl.cat.sets, r.dict = n ∧ r.dictGen = s.ctl.dicts.gen n ∧ r.state ≠ .expired) → x (s.ctl.afterAnswer (.link l) q .dictionaryInUse))
      ∧ ((∀ r ∈ s.ctl.cat.sets, r.dict = n → r.dictGen = s.ctl.dicts.gen n → r.state = .expired) → ∃ d : Dicts,
          x { s.ctl.afterAnswer (.link l) q .ok (.generation g) with dicts := d, store := s.ctl.store.noteChange }
          ∧ d.slot? n = some { bytes := bs, generation := g } ∧ ∀ m, m ≠ n → d.slot? m = s.ctl.dicts.slot? m)))
  ∧ (∀ (s : State) (q : QueuedReq) (n : Nat) (bs : List Byte), AtHead s .panel q (.writeDictionary n bs) →
      exec (.writeDictionary .panel n bs) s = .next (s.withCtl (s.ctl.afterAnswer .panel q .notPermitted)))
  ∧ ∀ (i : Instr) (s t : State) (n : Nat), exec i s = .next t → (∀ sense a b intact, i ≠ .powerUp sense a b intact) → (∀ intact, i ≠ .imageReadDone intact) →
      (∃ r ∈ s.ctl.cat.sets, r.dict = n ∧ r.dictGen = s.ctl.dicts.gen n ∧ r.state ≠ .expired) → t.ctl.dicts.slot? n = s.ctl.dicts.slot? n

/-- Reading what a requester would send gives the request back: for every request whose operands fit the frame, the argument bytes it stands in decode to it. The numbers its
arguments stand for are in part the model's choice (assumption 4). -/
def Obligations.RequestRoundTrip : Prop := ∀ r : Req, r.wf = true → Req.decode r.code r.args = some r

/-- A frame is judged by its check, its length field and its kind (R175): the bytes of a frame of kind 1 to 6 with a body of 2 to 4,160 bytes are judged by that body. A frame
is damaged whose check is any other than the one over its kind, length and body; whose length field names another length than its body's, even with a good check over it; whose kind is
none of these; or whose bytes are too few. The tape block the Formatter builds reads back GOOD with every field it
was built from (R122, R124): for a header whose fields fit their places, a record-end list within the block and a payload of the coded length. -/
def Obligations.FramesAndBlocksReadBack : Prop :=
  ((∀ (kind : Nat) (body : List Byte), 1 ≤ kind → kind ≤ 6 → 2 ≤ body.length → body.length ≤ 4160 → judgeFrame (frameBytes kind body) = judgeBody kind body)
      ∧ (∀ (kind : Nat) (body : List Byte), kind < 256 → (kind = 0 ∨ 6 < kind ∨ body.length < 2 ∨ 4160 < body.length ∧ body.length < 65536) →
          judgeFrame (frameBytes kind body) = .damaged)
      ∧ (∀ (kind : Nat) (body check : List Byte), check.length = 4 →
          let head := byteOf kind ++ wordOf body.length ++ body
          check ≠ beBytes 4 (crc head).toNat → judgeFrame (head ++ check) = .damaged)
      ∧ (∀ (kind n : Nat) (body : List Byte), n < 65536 → n ≠ body.length →
          let head := byteOf kind ++ wordOf n ++ body
          judgeFrame (head ++ beBytes 4 (crc head).toNat) = .damaged)
      ∧ ∀ (bs : List Byte), bs.length < 9 → judgeFrame bs = .damaged)
  ∧ (∀ (h : Header) (ends : List Nat) (payload : List Byte) (native : BitVec 32),
      1 ≤ h.kind → h.kind ≤ 3 → h.passTag < 256 → h.dict < 256 → h.set < 65536 → h.extent < 256 → h.ends = ends.length → ends.length < 256 → h.block < 4294967296 →
      h.native ≤ 65536 → (h.kind = 2 → 1 ≤ h.native ∧ h.record = h.recordsBefore) → h.coded = payload.length → payload.length ≤ 65536 → h.record < 4294967296 →
      h.recordsBefore < 4294967296 → h.label.length = 8 → h.generation < 65536 → h.dictGen < 256 → h.day < 65536 → h.before < 4294967296 →
      (∀ o ∈ ends, 1 ≤ o ∧ o ≤ 65536) →
      checkBlock (blockBytes h ends payload native)
        = .good { hdr := h, ends := ends, payload := payload, blockCrc := crc (h.bytes ++ endsBytes ends ++ payload), nativeCrc := native })

/-- History coding is lossless (R85 to R97): a bank of 1 to 65,536 bytes, coded with a dictionary slot as it stands, expands to the same bytes with no fault, passes the
native check, and is never longer coded than it was. -/
def Obligations.CodingRoundTrip : Prop :=
  ∀ (ix : BankIx) (b : Bank) (st : Stamp) (slot : Nat) (d : Dicts) (dict : DictSlot) (c : Cart) (r : SetRec),
    d.slot? slot = some dict → dict.bytes.length ≤ 1024 → 1 ≤ b.bytes.length → b.bytes.length ≤ 65536 → r.dict = slot → r.dictGen = dict.generation →
    let x := codeBank ix b st slot dict
    let t : TapeBlock := { hdr := dataHeader c r x, ends := x.ends, payload := x.payload, blockCrc := 0, nativeCrc := x.nativeCrc }
    expand d t = { out := b.bytes, fault := none } ∧ nativeMatches t b.bytes = true ∧ x.payload.length ≤ b.bytes.length

/-! ## Write sessions and staging banks (chapter 6) -/

/-- R109: OPEN_SET is BAD_ARGUMENT for a channel, a dictionary slot, a target or a yield flag outside its list. At a named channel the first condition that holds gives
the answer, with no change: a channel that is not idle or has a FAULTED transport, a reservation of the other link, the target's conditions, a full catalog. With channel
ANY no channel that passes is CHANNEL_BUSY; it takes the lowest-numbered channel that passes, or that of the transport in which a named target stands MOUNTED. R63, R109,
R111, R112: an OPEN_SET that is ACCEPTED has the next free set id, and its set record is created OPENING with the dictionary slot's generation and the retention clamped;
the channel is in WRITE with both banks EMPTY. With a named target MOUNTED in its transport the session is in APPENDING_CHECK, and the volume block is written or checked;
with one elsewhere it is in LOADING with its LOAD raised, here at a transport with no cartridge. At a channel whose verify has an order outstanding, the verify is asked
to pause and the session waits in OPENING with its claim (R150). R110, R113: one with target POOL, with no cartridge that fits, waits in NEED_CARTRIDGE with the timer
running. What the POOL choice gives: among the cartridges that fit, the OPEN one with the smallest estimate that is enough, the lower slot first, else the BLANK or
SCRATCH one in the lowest slot; at a span the latter alone. A cartridge that R8 protects by its home slot does not fit, because R8 forbids the LOAD. -/
def Obligations.OpenSetAnswers : Prop :=
  (∀ (s : State) (l : Link) (q : QueuedReq) (ch : Nat) (target : TargetArg) (hint dict ret today yield : Nat),
      AtHead s (.link l) q (.openSet ch target hint dict ret today yield) →
      Answered s.ctl →
      let answers : Code → Prop := fun code =>
        exec (.openSet (.link l) ch target hint dict ret today yield) s = .next (s.withCtl (s.ctl.afterAnswer (.link l) q code))
      ((2 < ch ∨ 3 < dict ∨ 1 < yield ∨ ∃ n, target = .other n) → answers .badArgument)
      ∧ ∀ (c : Chan) (t : Option Label), chanArg ch = some (some c) → targetOf target = some t → dict ≤ 3 → yield ≤ 1 →
        let busy := s.ctl.openIdle c = false ∨ (s.ctl.tr c).state = .faulted
        let reserved : Element → Prop := fun e => (s.ctl.elem e).reserved = some (.link l.other) ∨ (s.ctl.elem e).reserved = some .panel
        (busy → answers .channelBusy)
        ∧ (¬busy → reserved (.transport c) → answers .reserved)
        ∧ (¬busy → ¬reserved (.transport c) → t = none → 256 ≤ s.ctl.cat.sets.length → answers .catalogFull)
        ∧ (∀ x, ¬busy → ¬reserved (.transport c) → t = some x → s.ctl.cat.cart? x = none → answers .notFound)
        ∧ ∀ (x : Label) (k : Cart), ¬busy → ¬reserved (.transport c) → t = some x → s.ctl.cat.cart? x = some k →
          let unfit := s.ctl.findLabel x = none ∨ k.loc = none ∨ k.takesSession = false
          (unfit → answers .wrongState)
          ∧ ∀ e, s.ctl.findLabel x = some e → ¬unfit →
            let used := e = .gripper ∨ e = .transport c.other ∨ e = .transport c ∧ (s.ctl.tr c).state ≠ .mounted ∨ s.ctl.usedByActivity x = true
            let prot := s.ctl.entryProtected (s.ctl.elem e).entry = true
            let tab := (s.ctl.elem e).entry.map (·.tab) = some .set
            (used → answers .inUse)
            ∧ (¬used → prot → answers .isProtected)
            ∧ (¬used → ¬prot → tab → answers .tabProtected)
            ∧ (¬used → ¬prot → ¬tab → reserved e → answers .reserved)
            ∧ (¬used → ¬prot → ¬tab → ¬reserved e → s.ctl.doorBusy e = true → answers .doorBusy)
            ∧ (¬used → ¬prot → ¬tab → ¬reserved e → s.ctl.doorBusy e = false → 256 ≤ s.ctl.cat.sets.length → answers .catalogFull))
  ∧ (∀ (s : State) (l : Link) (q : QueuedReq) (ch : Nat) (target : TargetArg) (hint dict ret today yield : Nat) (t : Option Label),
      AtHead s (.link l) q (.openSet ch target hint dict ret today yield) → targetOf target = some t → dict ≤ 3 → yield ≤ 1 → Answered s.ctl →
      let k := s.ctl
      let reserved : Element → Prop := fun e => (k.elem e).reserved = some (.link l.other) ∨ (k.elem e).reserved = some .panel
      let passes : Chan → Prop := fun d => k.openIdle d = true ∧ (k.tr d).state ≠ .faulted ∧ ¬reserved (.transport d)
      let mountedIn : Chan → Prop := fun d => ∃ x, t = some x ∧ k.labelIn d = some x ∧ (k.tr d).state = .mounted
      let picks : Chan → Prop := fun c => chanArg ch = some (some c) ∨ chanArg ch = some none ∧ (mountedIn c ∧ k.labelIn c.other ≠ t ∨ (∀ d, ¬mountedIn d) ∧ (c = .c1 → ¬passes .c0))
      let id := k.cat.newSetId
      let fresh : Session := Session.fresh id l t hint dict (min ret 3650) today (decide (yield = 0))
      let opened : Ctl := { k.afterAnswer (.link l) q .accepted (.setId id) with
        cat := { k.cat with sets := insertSet (SetRec.fresh id l today (min ret 3650) dict (k.dicts.gen dict)) k.cat.sets, nextSetId := if 65535 ≤ id then 1 else id + 1 }
        store := k.store.noteChange }
      let begun : Chan → Session → Ctl := fun c x => opened.setChan c
        { k.chan c with mode := .write, claim := none, bank0 := .empty, bank1 := .empty, buf := .free, coder := .idle, expander := .idle, session := some x }
      let answers : Ctl → Prop := fun t => exec (.openSet (.link l) ch target hint dict ret today yield) s = .next (s.withCtl t)
      (chanArg ch = some none → (∀ d, ¬passes d) → answers (k.afterAnswer (.link l) q .channelBusy))
      ∧ ∀ c, picks c → passes c → k.cat.sets.length < 256 →
        let idle := k.chanIdle c = true
        (t = none → idle → (∀ y ∈ k.cat.carts, y.state ≠ .blank ∧ y.state ≠ .scratch ∧ y.state ≠ .opened) →
            answers ((begun c { fresh with state := .needCartridge, needTimer := true }).notify (.link l) (.needCartridge id)))
        ∧ ∀ (x : Label) (y : Cart) (e : Element), t = some x → k.cat.cart? x = some y → y.loc ≠ none → y.takesSession = true → k.findLabel x = some e → e ≠ .gripper →
          (∀ d, e = .transport d → d = c ∧ (k.tr c).state = .mounted ∧ (k.elem e).occ = .full) → k.usedByActivity x = false →
          k.entryProtected (k.elem e).entry = false → (k.elem e).entry.map (·.tab) ≠ some .set → ¬reserved e → k.doorBusy e = false →
          (idle → e = .transport c → (k.tr c).order = none →
            let starts := y.state = .blank ∨ y.state = .scratch
            answers ((begun c { fresh with state := .appendingCheck }).setTr c { k.tr c with
              state := if starts ∨ (k.tr c).pos ≠ 0 then .moving else .reading
              order := some (if starts then { kind := .locate 0, task := .sVolWriteLocate }
                else if (k.tr c).pos = 0 then { kind := .read, task := .sVolRead } else { kind := .locate 0, task := .sVolLocate }) }))
          ∧ (idle → (∀ d, e ≠ .transport d) → (k.elem (.transport c)).occ ≠ .full → ∃ t', answers t'
              ∧ Raised (begun c { fresh with state := .loading }) t' fun n => activityLoad n (.link l) (.chan c) e c .write x)
          ∧ (∀ v, k.verifyTakable c = true → k.verifyOn c = some v → (k.tr c).activityOrder = true → answers { opened with
              chans := k.chans.set c { k.chan c with session := some fresh, claim := some .session }
              verify := { k.verify with queue := k.verify.queue.map fun w => if w.set = v.set then { v with pauseAsked := true } else w } }))
  ∧ ∀ (k : Ctl) (x : Session),
      let fit : Cart → Fin 24 → Prop := fun y i => y ∈ k.cat.carts ∧ k.findLabel y.label = some (.slot i) ∧ (k.elem (.slot i)).occ = .full
        ∧ classOf y.label ≠ .unsupported ∧ k.inv.protect.covers i = false ∧ (k.elem (.slot i)).reserved ≠ some (.link x.owner.other)
        ∧ (∀ m, (Element.slot i).mag = some m → (k.door m).state = .locked)
        ∧ (∃ en, (k.elem (.slot i)).entry = some en ∧ en.acclim = 0 ∧ en.tab ≠ .set ∧ ∀ h, en.home = some h → k.inv.protect.covers h = false)
        ∧ k.inUse y.label = false ∧ y.label ∉ x.passed
      let appends : Cart → Fin 24 → Prop := fun y i => k.setWriting x = false ∧ fit y i ∧ y.state = .opened ∧ y.early = false ∧ y.sets.length < 32 ∧ x.hint ≤ y.estimate
      let starts : Cart → Fin 24 → Prop := fun y i => fit y i ∧ (y.state = .blank ∨ y.state = .scratch)
      (∀ y i, appends y i → (∀ z j, appends z j → y.estimate < z.estimate ∨ y.estimate = z.estimate ∧ i ≤ j) → k.poolChoice x = some y.label)
      ∧ (∀ y i, (∀ z j, ¬appends z j) → starts y i → (∀ z j, starts z j → i ≤ j) → k.poolChoice x = some y.label)
      ∧ ((∀ y i, ¬appends y i ∧ ¬starts y i) → k.poolChoice x = none)

/-- R114, R115, R116: SYNC, CLOSE_SET and ABORT_SET of a set with no record are NOT_FOUND, of another's set NOT_OWNER, of a set with no session WRONG_STATE, and each has
its own refusals. A SYNC that is taken waits for every bank closed so far and for the FILLING one; a CLOSE_SET makes the close pending, takes back the credits and closes
the FILLING bank; a STREAMING session becomes CLOSING, one in any other state goes on in it; then the channel judges what it can do. An ABORT_SET that is taken while a
data block is at the transport waits for it, with the rest of the session's bytes and orders gone. With no block in hand it goes on at once: an OPENING set is deleted,
and a WRITING one gets its TRUNCATED summary, or without one becomes TRUNCATED and the session ends. The model's choices: that CREDIT frames still in the link's queue go
with the credits (assumption 26, DEDUCED), that a block whose LOCATE was ordered counts as being written (assumption 21, DEDUCED), and that the UNLOAD after the end
belongs to no activity (assumption 14, DEDUCED). -/
def Obligations.SessionRequestsAnswered : Prop :=
  ∀ (s : State) (l : Link) (q : QueuedReq) (n : Nat), Answered s.ctl →
    let k := s.ctl
    let answered : Code → Ctl := fun code => k.afterAnswer (.link l) q code
    (∀ (i : Instr) (r : Req), (i = .sync (.link l) n ∧ r = .sync n ∨ i = .closeSet (.link l) n ∧ r = .closeSet n ∨ i = .abortSet (.link l) n ∧ r = .abortSet n) →
      AtHead s (.link l) q r →
      (k.cat.set? n = none → exec i s = .next (s.withCtl (answered .notFound)))
      ∧ ∀ x, k.cat.set? n = some x →
        (x.owner ≠ l → exec i s = .next (s.withCtl (answered .notOwner)))
        ∧ (x.owner = l → k.sessionOf n = none → exec i s = .next (s.withCtl (answered .wrongState))))
    ∧ ∀ (x : SetRec) (c : Chan) (y : Session), k.cat.set? n = some x → x.owner = l → k.sessionOf n = some (c, y) →
      (AtHead s (.link l) q (.sync n) →
        (y.state = .closing ∨ y.state = .aborting → exec (.sync (.link l) n) s = .next (s.withCtl (answered .wrongState)))
        ∧ (y.state = .opening ∨ y.state = .loading ∨ y.state = .appendingCheck ∨ y.state = .needCartridge ∧ x.state ≠ .writing →
            exec (.sync (.link l) n) s = .next (s.withCtl (answered .ok)))
        ∧ ((y.state = .streaming ∨ y.state = .spanning ∨ y.state = .suspending ∨ y.state = .suspended ∨ y.state = .resuming
            ∨ y.state = .needCartridge ∧ x.state = .writing) →
            (y.syncPending = true → exec (.sync (.link l) n) s = .next (s.withCtl (answered .busy)))
            ∧ (y.syncPending = false → exec (.sync (.link l) n) s = .next (s.withCtl
                (((answered .accepted).setSession c { y with
                    syncPending := true
                    syncUpTo := y.banksClosed + if (k.chan c).bank0.state = .filling ∨ (k.chan c).bank1.state = .filling then 1 else 0 }).judgeChannel c).commandEnd))))
      ∧ (AtHead s (.link l) q (.closeSet n) →
        (y.state = .closing ∨ y.state = .aborting ∨ y.closePending = true ∨ x.state ≠ .writing →
            exec (.closeSet (.link l) n) s = .next (s.withCtl (answered .wrongState)))
        ∧ (y.state ≠ .closing → y.state ≠ .aborting → y.closePending = false → x.state = .writing → y.owner = l →
            let ended : SessionState := if y.state = .streaming then .closing else y.state
            let closes : Channel → Ctl := fun ch => (((answered .accepted).setLink l { (answered .accepted).link l with
                creditFrames := ((answered .accepted).link l).creditFrames.filter fun f => f.1 ≠ c }).setChan c ch).judgeChannel c
            ((k.chan c).filling = none → exec (.closeSet (.link l) n) s = .next (s.withCtl
              (closes { k.chan c with credits := 0, session := some { y with closePending := true, state := ended } }).commandEnd))
            ∧ ∀ i, (k.chan c).filling = some i → exec (.closeSet (.link l) n) s = .next (s.withCtl
              (closes { (k.chan c).setBank i { (k.chan c).bank i with state := .closed, stamp := some y.stamp } with
                credits := 0, session := some { y.counted ((k.chan c).bank i) with closePending := true, state := ended } }).commandEnd)))
      ∧ (AtHead s (.link l) q (.abortSet n) →
        (y.state = .aborting → exec (.abortSet (.link l) n) s = .next (s.withCtl (answered .wrongState)))
        ∧ (y.state ≠ .aborting → y.owner = l → ∀ i, WaitsToAbort k c y x i → ∃ t,
            exec (.abortSet (.link l) n) s = .next (s.withCtl t) ∧ AbortBegun (answered .accepted) t c y .cancelled i)
        ∧ (y.state ≠ .aborting → y.owner = l → NothingInHand k c y → ∃ t,
            exec (.abortSet (.link l) n) s = .next (s.withCtl t) ∧ AbortEnds (answered .accepted) t c y x .cancelled))

/-- R104, R105, R115, R117, R175: a data frame for no channel, for no session of the link, or for a session that is ending or whose close is pending, has no effect; on
credit 0 the session is aborted with OVERRUN. Otherwise a credit is used up and the bytes join the bank that takes them, the FILLING one or else an EMPTY one, with the
end of the record noted; a bank that becomes full closes with its stamp, and the rest of the frame goes to the other one. A frame with no payload or too long a one is a
damaged frame, which aborts the sessions of the link that hold credit. An abort with a data block at the transport waits for it, one with no block in hand goes on at once
(R116). The model's choices: neither frame has any effect on an OFFLINE link (assumption 9, DEDUCED), CREDIT frames still in the link's queue go with the credits
(assumption 26, DEDUCED), a block whose LOCATE was ordered counts as being written (assumption 21, DEDUCED), and the UNLOAD after the end belongs to no activity
(assumption 14, DEDUCED). -/
def Obligations.DataFrames : Prop :=
  ∀ (s : State) (l : Link) (flags : Nat) (bytes : List Byte), Answered s.ctl →
    let k := s.ctl
    let eor : Bool := decide (flags % 2 = 1)
    (∀ ch, bytes = [] ∨ 4096 < bytes.length → exec (.dataOut l ch flags bytes) s = exec (.damagedFrame (.link l)) s)
    ∧ (exec (.damagedFrame .panel) s = .next s)
    ∧ ((k.link l).online = false ∨ (∀ c x, k.session c = some x → x.owner ≠ l ∨ (k.chan c).credits = 0) → exec (.damagedFrame (.link l)) s = .next s)
    ∧ (∀ (c : Chan) (x : Session) (r : SetRec) (i : BankIx), (k.link l).online = true → k.session c = some x → x.owner = l → 0 < (k.chan c).credits →
        (∀ y, k.session c.other = some y → y.owner ≠ l ∨ (k.chan c.other).credits = 0) → x.state ≠ .aborting → k.cat.set? x.setId = some r →
        (WaitsToAbort k c x r i → ∃ t, exec (.damagedFrame (.link l)) s = .next (s.withCtl t) ∧ AbortBegun k t c x .linkDamage i)
        ∧ (NothingInHand k c x → ∃ t, exec (.damagedFrame (.link l)) s = .next (s.withCtl t) ∧ AbortEnds k t c x r .linkDamage))
    ∧ (∀ ch, bytes ≠ [] → bytes.length ≤ 4096 → ((k.link l).online = false ∨ 1 < ch) → exec (.dataOut l ch flags bytes) s = .next s)
    ∧ ∀ c : Chan, bytes ≠ [] → bytes.length ≤ 4096 → (k.link l).online = true →
      ((∀ x, k.session c = some x → x.owner ≠ l ∨ x.state = .closing ∨ x.state = .aborting ∨ x.closePending = true) → exec (.dataOut l c.num flags bytes) s = .next s)
      ∧ ∀ x, k.session c = some x → x.owner = l → x.state ≠ .closing → x.state ≠ .aborting → x.closePending = false →
        (∀ r i, (k.chan c).credits = 0 → k.cat.set? x.setId = some r → WaitsToAbort k c x r i →
          ∃ t, exec (.dataOut l c.num flags bytes) s = .next (s.withCtl t) ∧ AbortBegun k t c x .overrun i)
        ∧ (∀ r, (k.chan c).credits = 0 → k.cat.set? x.setId = some r → NothingInHand k c x →
          ∃ t, exec (.dataOut l c.num flags bytes) s = .next (s.withCtl t) ∧ AbortEnds k t c x r .overrun)
        ∧ ∀ i, 0 < (k.chan c).credits → (k.chan c).intake (if x.state = .suspended then x.kept else none) = some i →
          let b := (k.chan c).bank i
          let held : List Byte := if b.state = .filling then b.bytes else []
          let ends : List Nat := if b.state = .filling then b.ends else []
          let room := 65536 - held.length
          let ch1 : Channel := { k.chan c with credits := (k.chan c).credits - 1 }
          let b1 : Bank := { state := .filling, bytes := held ++ bytes, ends := if eor then ends ++ [held.length + bytes.length] else ends, stamp := none }
          let placed : Channel → Ctl := fun ch => ((k.setChan c ch).judgeChannel c).commandEnd
          (b1.bytes.length < 65536 → b1.ends.length < 255 → exec (.dataOut l c.num flags bytes) s = .next (s.withCtl (placed (ch1.setBank i b1))))
          ∧ (b1.bytes.length ≤ 65536 → b1.bytes.length = 65536 ∨ 255 ≤ b1.ends.length →
            exec (.dataOut l c.num flags bytes) s = .next (s.withCtl
              (placed { ch1.setBank i { b1 with state := .closed, stamp := some x.stamp } with session := some (x.counted b1) })))
          ∧ (65536 < b1.bytes.length → held.length ≤ 65536 → ((k.chan c).bank i.other).state = .empty →
            let b2 : Bank := { state := .filling, bytes := held ++ bytes.take room, ends := ends, stamp := none }
            let b3 : Bank := { state := .filling, bytes := bytes.drop room, ends := if eor then [bytes.length - room] else [], stamp := none }
            exec (.dataOut l c.num flags bytes) s = .next (s.withCtl (placed
              { (ch1.setBank i { b2 with state := .closed, stamp := some x.stamp }).setBank i.other b3 with session := some (x.counted b2) })))

/-- The law of write credits (R106), over every command: each keeps what keeps the law, and right after reset it holds; and where it holds, 4,096 times the outstanding credits
and the bytes that a session holds in the two banks never exceed 131,072. -/
def Obligations.WriteCreditLawKept : Prop :=
  (∀ (i : Instr) (s t : State), (∀ c, CreditLaw (s.ctl.chan c)) → exec i s = .next t → ∀ c, CreditLaw (t.ctl.chan c))
  ∧ (∀ c, CreditLaw (State.reset.ctl.chan c))
  ∧ ∀ ch : Channel, CreditLaw ch →
      let held : Bank → Nat := fun b => if b.state = .empty ∨ b.state = .lent then 0 else b.bytes.length
      4096 * ch.credits + held ch.bank0 + held ch.bank1 ≤ 131072

/-- R93, R107: a CLOSED bank, the one with the lower set block number first, is handed to an idle coder while the coded buffer is free and the session codes; the coder's
result makes it WRITING with its block in the coded buffer, and the Formatter writes it at the end-of-data, locates there first, or, where the law of writing refuses it,
gives the bank back and aborts the session. The law of writing (R130) is written out: home slot not protected, tab not SET, class not UNSUPPORTED, state OPEN. R131, R134:
where the block would leave fewer than 2 frames of the capacity, a span is ordered: the bank is RETAINED, the session SPANNING, its credits are judged, and the summary
with flag CONTINUES is written at the end-of-data, or located for; with 4 extents already the session is aborted with SET_TOO_LONG, here with nothing else in hand; that
the UNLOAD after it belongs to no activity is the model's choice (assumption 14, DEDUCED). R106, R114: a grant tops the outstanding credits up to 16 with one CREDIT
frame, while the session takes data, its link is ONLINE and one of its banks is EMPTY; and a pending SYNC whose bytes have all left the banks completes with SYNC_DONE. In
any other case each changes nothing. -/
def Obligations.BanksGrantsAndSyncs : Prop :=
  (∀ (s : State) (c : Chan),
      let k := s.ctl
      let ch := k.chan c
      (∀ x i, k.session c = some x → ch.buf = .free → ch.coder = .idle → (x.state = .streaming ∨ x.state = .suspending ∨ x.state = .closing) →
        (ch.bank i).state = .closed →
        ((ch.bank i.other).state = .closed → ∃ a b, (ch.bank i).stamp = some a ∧ (ch.bank i.other).stamp = some b ∧ a.block < b.block) →
        exec (.bankCodingStart c) s = .next (s.withCtl (k.setChan c { ch.setBank i { ch.bank i with state := .coding } with
          coder := .coding i { bytes := k.dicts.contents x.dict, generation := k.dicts.gen x.dict } })))
      ∧ ((ch.buf ≠ .free ∨ ch.coder ≠ .idle ∨ ch.bank0.state ≠ .closed ∧ ch.bank1.state ≠ .closed) → exec (.bankCodingStart c) s = .next s)
      ∧ (ch.coder = .idle → Answered k → (∀ x, k.session c = some x → x.state ≠ .suspending) → exec (.coderResult c) s = .next s)
      ∧ ∀ (i : BankIx) (d : DictSlot) (x : Session) (r : SetRec) (y : Cart) (st : Stamp), ch.coder = .coding i d → (ch.bank i).state = .coding → x.state ≠ .suspending →
          Answered k → k.session c = some x → k.cat.set? x.setId = some r →
          k.cartIn c = some y → (ch.bank i).stamp = some st → ch.claim = none →
          let b := codeBank i (ch.bank i) st x.dict d
          let k1 := k.setChan c { ch.setBank i { ch.bank i with state := .writing } with coder := .idle, buf := .held b }
          let lawful := LawOfWriting k y (k.entryIn c)
          let fits := y.frames + b.cost ≤ (classOf y.label).capacity - 2
          (lawful → fits → (k.tr c).state = .mounted → (k.tr c).order = none → (k.tr c).pos = y.eod →
            exec (.coderResult c) s = .next (s.withCtl (k1.setTr c { k.tr c with
              state := .writing, order := some { kind := .write (dataBlock y r b), task := .sDataWrite i } })))
          ∧ (lawful → fits → (k.tr c).state = .mounted → (k.tr c).order = none → (k.tr c).pos ≠ y.eod →
            exec (.coderResult c) s = .next (s.withCtl (k1.setTr c { k.tr c with
              state := .moving, order := some { kind := .locate y.eod, task := .sDataLocate i } })))
          ∧ (¬lawful → exec (.coderResult c) s = .next (s.withCtl
              ((k.setChan c { ch.setBank i .empty with coder := .idle, buf := .free }).abort c .writeFault true false).commandEnd))
          ∧ (lawful → ¬fits →
            let spans : Session := { x with state := .spanning }
            let k2 := (k.setChan c { ch.setBank i { ch.bank i with state := .retained } with coder := .idle, buf := .held b, session := some spans }).grant c
            (r.extents.length < 4 → (k.tr c).state = .mounted → (k.tr c).order = none → exec (.coderResult c) s = .next (s.withCtl (k2.setTr c { k.tr c with
              state := if (k.tr c).pos = y.eod then .writing else .moving
              order := some (if (k.tr c).pos = y.eod then { kind := .write (summaryBlock y r .continues), task := .sSumWrite .continues }
                else { kind := .locate y.eod, task := .sSumLocate .continues }) })))
            ∧ (4 ≤ r.extents.length → NothingInHand k2 c spans → ∃ t, exec (.coderResult c) s = .next (s.withCtl t) ∧ AbortEnds k2 t c spans r .setTooLong)))
  ∧ (∀ (s : State) (c : Chan) (x : Session), s.ctl.session c = some x →
      let k := s.ctl
      let takes := (x.state = .streaming ∨ x.state = .spanning ∨ x.state = .resuming ∨ x.state = .needCartridge ∧ (k.cat.set? x.setId).map (·.state) = some .writing)
        ∧ (k.link x.owner).online = true ∧ x.closePending = false ∧ ((k.chan c).bank0.state = .empty ∨ (k.chan c).bank1.state = .empty)
      let waits : Bank → Prop := fun b =>
        (b.state = .closed ∨ b.state = .coding ∨ b.state = .writing ∨ b.state = .retained) ∧ ∃ st, b.stamp = some st ∧ st.block < x.syncUpTo
      let complete := x.syncPending = true ∧ x.state ≠ .aborting ∧ x.syncUpTo ≤ x.banksClosed ∧ ¬waits (k.chan c).bank0 ∧ ¬waits (k.chan c).bank1
      (takes → (k.chan c).credits < 16 → exec (.creditGrant c) s = .next (s.withCtl
        ((k.setChan c { k.chan c with credits := 16 }).setLink x.owner ((k.link x.owner).pushCredit c (16 - (k.chan c).credits)))))
      ∧ (¬takes ∨ 16 ≤ (k.chan c).credits → exec (.creditGrant c) s = .next s)
      ∧ (complete → exec (.syncComplete c) s = .next (s.withCtl ((k.setChan c { k.chan c with session := some { x with syncPending := false } }).notify
          (.link x.owner) (.syncDone x.setId (((k.cat.set? x.setId).map (·.blocks)).getD 0)))))
      ∧ (¬complete → exec (.syncComplete c) s = .next s))

/-- R113, R115, R118: in CLOSING with both banks EMPTY and no order outstanding the summary block with flag CLOSED is written at the end-of-data; a SUSPENDING session
whose banks are finished keeps one bank, lends the other and the coded buffer, and passes the channel to the restore that asked, whose own cartridge stands in the
transport; the timer of NEED_CARTRIDGE has the choice made again, and changes nothing while no cartridge fits. R119: when the restore that displaced a session ends, here
at its stall timer, the LENT bank comes back EMPTY, the channel takes mode WRITE and the session RESUMING, with its grants judged; a cartridge that was unloaded for the
restore is loaded again, one that was not has its block at end-of-data - 1 read. In RESUMING a good volume block leads to that block; once that block is good too
SESSION_RESUMED is sent and the session streams, or closes where its close is pending; a block that is not makes the cartridge UNKNOWN and aborts the session with
RESUME_FAILED. The law of channel activity (R102), over every command: no cartridge is the current extent of more than one write session, and no transport serves more
than one channel activity. The model's choices in an abort: that CREDIT frames still queued go with it (assumption 26, DEDUCED), that a block whose LOCATE was ordered
counts as being written (assumption 21, DEDUCED), and that the UNLOAD after the end belongs to no activity (assumption 14, DEDUCED). -/
def Obligations.SessionSteps : Prop :=
  (∀ (s : State) (c : Chan) (x : Session), s.ctl.session c = some x → Answered s.ctl →
    let k := s.ctl
    let ch := k.chan c
    (∀ r y, x.state = .closing → ch.bank0.state = .empty → ch.bank1.state = .empty → k.cat.set? x.setId = some r → k.cartIn c = some y →
      LawOfWriting k y (k.entryIn c) → (k.tr c).state = .mounted → (k.tr c).order = none → (k.tr c).pos = y.eod →
      exec (.summaryBlockWrite c) s = .next (s.withCtl (k.setTr c { k.tr c with
        state := .writing, order := some { kind := .write (summaryBlock y r .closed), task := .sSumWrite .closed } })))
    ∧ (x.state ≠ .closing → x.state ≠ .aborting → exec (.summaryBlockWrite c) s = .next s)
    ∧ (x.state ≠ .suspending → exec (.suspensionComplete c) s = .next s)
    ∧ (∀ id r i, x.state = .suspending → ch.claim = some (.restore id) → k.restore? id = some r → r.state = .claiming →
        k.restoreLabel r = k.labelIn c → k.labelIn c ≠ none →
        (k.tr c).state = .mounted → (k.tr c).order = none → (k.tr c).pos = 0 →
        (∀ j, (ch.bank j).state = .empty ∨ (ch.bank j).state = .filling) → ch.filling.getD .b0 = i →
        4096 * ch.credits + (ch.bank i).bytes.length ≤ 65536 → ch.credits + (ch.bank i).ends.length ≤ 255 →
        ∃ t, exec (.suspensionComplete c) s = .next (s.withCtl t) ∧ t.inv = k.inv ∧ t.cat = k.cat ∧ t.picker = k.picker ∧ t.verify = k.verify ∧ t.store = k.store
          ∧ t.chan c = { ch.setBank i.other { Bank.empty with state := .lent } with
              buf := .lent, mode := .restore, claim := none, session := some { x with state := .suspended, kept := some i, unloaded := false } }
          ∧ t.tr c = { k.tr c with state := .reading, order := some { kind := .read, task := .rVolRead } }
          ∧ t.restore? id = some { r with state := .loading, chan := some c, displaced := some x.setId }
          ∧ t.links = ((k.notify (.link x.owner) (.sessionSuspended x.setId)).notify (.link r.requester) (.restoreStarted id r.set c)).links)
    ∧ (∀ i r y, x.state = .suspended → x.kept = some i → x.syncPending = false → k.restoreOn c = some r → k.restore? r.id = some r → r.chan = some c → r.state = .delivering →
        r.stall = true → ch.mode = .restore → ch.claim = none → (ch.bank i).state ≠ .lent → (ch.bank i.other).state = .lent → (∀ d, (k.chan d).drain = none) →
        (k.tr c).order = none → k.picker.running = none → k.picker.held = [] →
        let back : Ctl := (k.setChan c { ch.setBank i.other .empty with mode := .write, buf := .free, expander := .idle, session := some { x with state := .resuming } }).grant c
        (x.unloaded = false → k.cartIn c = some y → k.labelIn c = x.chosen → k.labelIn c ≠ none → (k.tr c).state = .mounted → ∃ t,
          exec (.stallTimerExpiry c) s = .next (s.withCtl t) ∧ t.chan c = back.chan c ∧ t.cat = k.cat ∧ t.picker = k.picker
          ∧ t.restore.running = (k.restore.running.filter fun z => z.id ≠ r.id)
          ∧ t.tr c = { k.tr c with
              state := if (k.tr c).pos = y.eod - 1 then .reading else .moving
              order := some (if (k.tr c).pos = y.eod - 1 then { kind := .read, task := .sEndRead } else { kind := .locate (y.eod - 1), task := .sEndLocate }) })
        ∧ (∀ l src, x.unloaded = true → x.chosen = some l → k.findLabel l = some (.slot src) → ∃ t, exec (.stallTimerExpiry c) s = .next (s.withCtl t)
          ∧ t.chan c = back.chan c ∧ t.cat = k.cat ∧ ∃ o ∈ t.picker.queue ++ t.picker.held, o = activityLoad o.id (.link x.owner) (.chan c) (.slot src) c .write l))
    ∧ (∀ r y bytes, x.state = .resuming → k.cat.set? x.setId = some r → k.cartIn c = some y → y.state ≠ .unknown → (k.tr c).state = .reading → (k.tr c).pendingEject = false →
        (∀ d, (k.chan d).drain = none) →
        let stood : Transport := { k.tr c with state := .mounted, pos := (k.tr c).pos + 1, order := none }
        let resumed : Session := { x with unloaded := false, kept := none, state := if x.closePending = true then .closing else .streaming }
        let unknown : Ctl := { k.setTr c stood with
          cat := k.cat.modCart y.label fun z => { z with state := .unknown }, store := k.store.noteChange }
        let fails : Prop := NothingInHand unknown c x → ∃ t, exec (.blockRead c bytes) s = .next (s.withCtl t) ∧ AbortEnds unknown t c x r .resumeFailed
        ((k.tr c).order = some { kind := .read, task := .sVolRead } →
          (volumeCheck y (checkBlock bytes) = true → exec (.blockRead c bytes) s = .next (s.withCtl (k.setTr c { stood with
            state := if stood.pos = y.eod - 1 then .reading else .moving
            order := some (if stood.pos = y.eod - 1 then { kind := .read, task := .sEndRead } else { kind := .locate (y.eod - 1), task := .sEndLocate }) })))
          ∧ (volumeCheck y (checkBlock bytes) = false → fails))
        ∧ ((k.tr c).order = some { kind := .read, task := .sEndRead } →
          (resumeCheck y r (checkBlock bytes) = true → exec (.blockRead c bytes) s = .next (s.withCtl
            ((((k.setTr c stood).setChan c { ch with session := some resumed }).notify (.link x.owner) (.sessionResumed x.setId)).judgeChannel c).commandEnd))
          ∧ (resumeCheck y r (checkBlock bytes) = false → fails)))
    ∧ (x.needTimer = false ∨ x.state ≠ .needCartridge ∨ k.poolChoice x = none → exec (.needCartridgeTimerExpiry c) s = .next s)
    ∧ ∀ l src, x.needTimer = true → x.state = .needCartridge → k.poolChoice x = some l → k.setWriting x = false → (k.elem (.transport c)).occ = .empty →
        k.findLabel l = some (.slot src) → k.picker.queue.length < 8 →
        ∃ t, exec (.needCartridgeTimerExpiry c) s = .next (s.withCtl t) ∧ t.inv = k.inv ∧ t.cat = k.cat ∧ t.links = k.links ∧ t.panel = k.panel
          ∧ t.session c = some { x with state := .loading, chosen := some l, needTimer := false }
          ∧ t.picker.queue = k.picker.queue ++ [activityLoad k.picker.freeId (.link x.owner) (.chan c) (.slot src) c .write l])
  ∧ (∀ (i : Instr) (s t : State), ActivityLaw s.ctl → exec i s = .next t → ActivityLaw t.ctl) ∧ ActivityLaw State.reset.ctl

/-! ## Transports and tape blocks (chapter 7) -/

/-- R126, R129, R111, R112: THREADED ends a THREAD. The transport is MOUNTED at position 0, with the tab written into its entry; ordered in MOUNTED already, position and
tab stay. A session LOADING its OPEN cartridge with tab CLEAR goes on to APPENDING_CHECK, with the volume block read. EJECTED ends an EJECT, and the UNLOADs waiting for
it leave EJECT_WAIT. R127: where the reports of LOCATE and READ_BLOCK leave the transport: MOUNTED, but for one whose cartridge has been fetched meanwhile, which stays
EMPTY (the model's choice, assumption 71, DEDUCED). Here the order is one of an activity that has ended, whose reports are dropped, and nothing waits on the channel, so
that the report changes nothing but the transport; a LOCATE of a restore is followed by the read of the block. With no order outstanding each of these reports is
discarded, in whatever state the transport is, and so, by the model's choice (assumption 42, DEDUCED), is a THREADED or EJECTED that does not answer the kind of the order
outstanding. -/
def Obligations.TransportReports : Prop :=
  (∀ (s : State) (c : Chan) (tab : TabReport) (o : TOrder), (∀ d, (s.ctl.chan d).drain = none) → (s.ctl.tr c).order = some o → (s.ctl.tr c).pendingEject = false →
      Answered s.ctl → NothingWaits s.ctl c →
      let k := s.ctl
      let e := Element.transport c
      let mounted : Transport := { k.tr c with state := .mounted, pos := 0, order := none, tabSeen := some tab }
      let withTab := k.setElem e { k.elem e with entry := (k.elem e).entry.map fun x => { x with tab := tab.tab } }
      (o = { kind := .thread, task := .plainThread } → (k.tr c).state = .threading →
        exec (.threaded c tab) s = .next (s.withCtl (withTab.setTr c mounted)))
      ∧ (o = { kind := .thread, task := .plainThread } → (k.tr c).state = .mounted →
        exec (.threaded c tab) s = .next (s.withCtl (k.setTr c { k.tr c with order := none })))
      ∧ (∀ x y, o = { kind := .thread, task := .sThread } → (k.tr c).state = .threading → tab = .clear → k.session c = some x →
          x.state = .loading → k.chosenCart x = some y → y.state = .opened →
          exec (.threaded c tab) s = .next (s.withCtl ((withTab.setTr c { mounted with state := .reading, order := some { kind := .read, task := .sVolRead } }).setChan c
            { k.chan c with session := some { x with state := .appendingCheck } })))
      ∧ (o.kind ≠ .thread → exec (.threaded c tab) s = .next s)
      ∧ (o = { kind := .eject, task := .eject } → exec (.ejected c) s = .next (s.withCtl
          { k.setTr c { k.tr c with state := if (k.tr c).state = .empty then .empty else .ejected, order := none } with
            picker := { k.picker with queue := k.picker.queue.map fun q =>
              if q.state = .ejectWait ∧ q.sourceTransport = some c then { q with state := .ready } else q } }))
      ∧ (o.kind ≠ .eject → exec (.ejected c) s = .next s))
  ∧ (∀ (s : State) (c : Chan), (∀ d, (s.ctl.chan d).drain = none) → (s.ctl.tr c).pendingEject = false → Answered s.ctl →
      let k := s.ctl
      let busy : Prop := (k.tr c).state = .moving ∨ (k.tr c).state = .reading
      let at' : Nat → Ctl := fun pos => k.setTr c { k.tr c with state := if busy then .mounted else (k.tr c).state, pos := pos, order := none }
      busy ∨ (k.tr c).state = .empty →
      (∀ p, (k.tr c).order = some { kind := .locate p, task := .dropped } → exec (.positioned c) s = .next (s.withCtl (at' p)))
      ∧ (∀ p n, (k.tr c).order = some { kind := .locate p, task := .dropped } → exec (.endOfData c n) s = .next (s.withCtl (at' n)))
      ∧ (∀ bytes, (k.tr c).order = some { kind := .read, task := .dropped } → exec (.blockRead c bytes) s = .next (s.withCtl (at' ((k.tr c).pos + 1))))
      ∧ ((k.tr c).order = some { kind := .read, task := .dropped } → exec (.blockUnreadable c) s = .next (s.withCtl (at' ((k.tr c).pos + 1))))
      ∧ (∀ n, (k.tr c).order = some { kind := .read, task := .dropped } → exec (.endOfData c n) s = .next (s.withCtl (at' (k.tr c).pos)))
      ∧ (∀ p, (k.tr c).order = some { kind := .locate p, task := .rLocate } → busy → exec (.positioned c) s = .next (s.withCtl
          (k.setTr c { k.tr c with state := .reading, pos := p, order := some { kind := .read, task := .rRead } }))))
  ∧ (∀ (s : State) (c : Chan), (s.ctl.tr c).order = none → Answered s.ctl →
      exec (.ejected c) s = .next s ∧ exec (.positioned c) s = .next s ∧ exec (.blockUnreadable c) s = .next s
      ∧ ∀ tab n bytes, exec (.threaded c tab) s = .next s ∧ exec (.endOfData c n) s = .next s ∧ exec (.blockRead c bytes) s = .next s)

/-- R66, R107, R132: a data block of a session has been written, which is STREAMING, CLOSING or SUSPENDING, or SPANNING, whose rewritten block takes it back to STREAMING,
or to CLOSING with a close pending (R136). The cartridge's frames grow by the block's cost and its end-of-data by 1, the byte totals of cartridge and set by the block's
lengths, the set's last extent and block count by 1, its records by the record ends; the index point rule is applied, the bank is EMPTY and the coded buffer free, and the
channel judges what it can do. R132: where the frames have passed the early-warning point for the first time, early-warning passed becomes yes and EARLY_WARNING goes to
the owner. The law of writing and the capacity test, over every command (R130, R131): a transport with a new WRITE_BLOCK holds a cartridge whose home slot is not
protected, whose tab is not SET, whose class is not UNSUPPORTED and whose state is OPEN, or BLANK or SCRATCH for the volume block; and a data block's cost leaves 2 frames
of its capacity. The law of capacity, one step of it over every command (R132): apart from the loads of the image and a recovery, a cartridge's frames grow by no command
but BLOCK_WRITTEN at its transport, by 1, to 1, or by the cost of the data block in hand. -/
def Obligations.DataBlockWritten : Prop :=
  (∀ (s : State) (c : Chan) (x : Session) (r : SetRec) (y : Cart) (i : BankIx) (b : CodedBlock) (bytes : List Byte), (∀ d, (s.ctl.chan d).drain = none) → Answered s.ctl →
    (s.ctl.tr c).state = .writing → (s.ctl.tr c).order = some { kind := .write bytes, task := .sDataWrite i } → (s.ctl.tr c).pendingEject = false →
    s.ctl.session c = some x → x.state = .streaming ∨ x.state = .closing ∨ x.state = .suspending ∨ x.state = .spanning → (s.ctl.chan c).buf = .held b → s.ctl.cat.set? x.setId = some r → r.state = .writing →
    s.ctl.cartIn c = some y →
    let k := s.ctl
    let warned : Bool := !y.early && decide ((classOf y.label).warning < y.frames + b.cost)
    let grown : Cart := { y with early := y.early || warned, frames := y.frames + b.cost, eod := y.eod + 1, native := y.native + b.native, coded := y.coded + b.coded }
    let counted : SetRec := ({ r with extents := bumpLast r.extents, blocks := r.blocks + 1, native := r.native + b.native, coded := r.coded + b.coded
                                      records := r.records + b.ends.length } : SetRec).addIndex b.stamp.block b.stamp.record b.stamp.cont
    let goesOn : SessionState := if x.state = .spanning then (if x.closePending = true then .closing else .streaming) else x.state
    let told : Ctl → Ctl := fun k => if warned = true then k.notify (.link x.owner) (.earlyWarning x.setId y.label) else k
    ∃ cat : Catalog, cat.cart? y.label = some grown ∧ cat.set? r.id = some counted ∧ cat.nextSetId = k.cat.nextSetId
      ∧ (∀ l, l ≠ y.label → cat.cart? l = k.cat.cart? l) ∧ (∀ n, n ≠ r.id → cat.set? n = k.cat.set? n)
      ∧ exec (.blockWritten c) s = .next (s.withCtl
          ((told { k with
              cat := cat, store := k.store.noteChange
              trans := k.trans.set c { k.tr c with state := .mounted, pos := (k.tr c).pos + 1, order := none }
              chans := k.chans.set c { (k.chan c).setBank i .empty with buf := .free, session := some { x with state := goesOn } } }).judgeChannel c).commandEnd))
  ∧ (∀ (i : Instr) (s t : State) (c : Chan) (bytes : List Byte) (task : Task), exec i s = .next t → (t.ctl.tr c).order = some { kind := .write bytes, task := task } →
      (s.ctl.tr c).order ≠ (t.ctl.tr c).order → task ≠ .dropped → ∃ y, t.ctl.cartIn c = some y
        ∧ (task ≠ .sVolWrite → LawOfWriting t.ctl y (t.ctl.entryIn c))
        ∧ (task = .sVolWrite → (y.state = .blank ∨ y.state = .scratch) ∧ LawOfWriting t.ctl { y with state := .opened } (t.ctl.entryIn c))
        ∧ ∀ j, task = .sDataWrite j → ∃ b, (t.ctl.chan c).buf = .held b ∧ y.frames + b.cost ≤ (classOf y.label).capacity - 2)
  ∧ (∀ (i : Instr) (s t : State) (l : Label) (y z : Cart), exec i s = .next t → (∀ sense a b intact, i ≠ .powerUp sense a b intact) →
      (∀ intact, i ≠ .imageReadDone intact) → s.ctl.store.recovery = none → s.ctl.cat.cart? l = some y → t.ctl.cat.cart? l = some z → y.frames < z.frames →
      ∃ c bytes task, i = .blockWritten c ∧ (s.ctl.tr c).order = some { kind := .write bytes, task := task } ∧ s.ctl.labelHeld c = some l
        ∧ (z.frames = 1 ∨ z.frames = y.frames + 1 ∨ ∃ j b, task = .sDataWrite j ∧ (s.ctl.chan c).buf = .held b ∧ z.frames = y.frames + b.cost))

/-- R67: the index point rule. Block 0 has a point; a later block has one when its number is a multiple of the interval; and where the list is full the interval doubles
and every point that is no multiple of it goes. So the points are always the multiples of the interval below the block count, at most 64 of them. -/
def Obligations.IndexPoints : Prop :=
  ∀ (r : SetRec) (b record : Nat) (cont : Bool),
    (r.addIndex 0 record cont).index = r.index ++ [{ block := 0, record := 0, cont := false }]
    ∧ (0 < b → b % r.interval ≠ 0 → r.addIndex b record cont = r)
    ∧ (0 < b → b % r.interval = 0 → r.index.length < 64 →
        (r.addIndex b record cont).index = r.index ++ [{ block := b, record := record, cont := cont }] ∧ (r.addIndex b record cont).interval = r.interval)
    ∧ (0 < b → b % r.interval = 0 → 64 ≤ r.index.length → (r.addIndex b record cont).interval = 2 * r.interval
        ∧ (r.addIndex b record cont).index = (r.index.filter fun p => p.block % (2 * r.interval) = 0)
            ++ if b % (2 * r.interval) = 0 then [{ block := b, record := record, cont := cont }] else [])
    ∧ ∀ n, IndexLaw r n → IndexLaw (r.addIndex n record cont) (n + 1)

/-- R64, R115, R132, R141, R169: the CLOSED summary has been written. The set becomes CLOSED, its cartridge has one more frame and end-of-data, SET_CLOSED goes to the
owner, the session ends with its channel IDLE, and the cartridge's UNLOAD HOME is raised with its eject ordered. With the owner's trigger ON_CLOSE the skip counter grows
by 1; where it has reached the skip count it is 0, and the set joins the verify queue's tail as an AUTO entry with the owner's policy, or is SKIPPED where the overlap
rule drops it or the queue is full. With auto-checkpoint on, a checkpoint of the settings and the catalog as they then are starts, or is pending where one is being saved.
The model's choices: that this UNLOAD belongs to no activity, because the session has ended (assumption 14, DEDUCED), and that the checkpoint is pending while a RELOAD
reads its image or is to read it again (assumption 35). -/
def Obligations.CloseCompletes : Prop :=
  ∀ (s : State) (c : Chan) (x : Session) (r : SetRec) (y : Cart) (bytes : List Byte), (∀ d, (s.ctl.chan d).drain = none) →
    (s.ctl.tr c).order = some { kind := .write bytes, task := .sSumWrite .closed } → (s.ctl.tr c).pendingEject = false → Answered s.ctl →
    (s.ctl.tr c).state = .writing → s.ctl.session c = some x → x.state = .closing → x.chosen = some y.label → (s.ctl.chan c).mode = .write → (s.ctl.chan c).claim = none →
    (∀ i, ((s.ctl.chan c).bank i).state ≠ .lent) → (s.ctl.chan c).buf ≠ .lent →
    s.ctl.cat.set? x.setId = some r → r.state = .writing → r.lastLabel = some y.label → s.ctl.cartIn c = some y → (s.ctl.elem (.transport c)).occ = .full → y.state = .opened → y.early = false → y.sets.length < 32 →
    y.frames < (classOf y.label).warning →
    s.ctl.picker.queue.length < 8 → s.ctl.unloadRaised c (some (.link x.owner)) none = false →
    (∀ o ∈ s.ctl.picker.queue, o.raisedBy ≠ some (.chan c)) →
    let k := s.ctl
    let p := k.verify.policies.get x.owner
    let n := k.verify.skips.get x.owner + 1
    let offered : Prop := p.trigger = .onClose ∧ p.skip ≤ n
    let dropped : Prop := p.overlap = .drop ∧ (∃ v ∈ k.verify.queue, (k.cat.set? v.set).map (·.owner) = some x.owner) ∨ 16 ≤ k.verify.queue.length
    let entry : VerifyEntry :=
      { set := x.setId, origin := .auto, requestedBy := none, mode := p.mode, pattern := p.pattern, passes := p.passes, passesLeft := p.passes, state := .waiting
        pauseAsked := false, resume := none, bad := 0, badList := [], badMore := false, runRec := none, expected := 0, extent := 0, lastFault := none, done := 0
        chan := none, waits := false }
    let changed := k.store.noteChange
    ∃ t, exec (.blockWritten c) s = .next (s.withCtl t) ∧ t.inv = k.inv ∧ t.standing = k.standing ∧ t.restore = k.restore ∧ t.panel = k.panel
      ∧ (p.trigger = .manual → t.verify = k.verify)
      ∧ (p.trigger = .onClose → n < p.skip → t.verify = { k.verify with skips := k.verify.skips.set x.owner n })
      ∧ (offered → ¬dropped → t.verify = { k.verify with skips := k.verify.skips.set x.owner 0, queue := k.verify.queue ++ [entry] })
      ∧ (offered → dropped → t.verify = { k.verify with skips := k.verify.skips.set x.owner 0 })
      ∧ (offered ∧ dropped → t.cat.set? r.id = some { r with state := .closed, verify := .skipped })
      ∧ (¬(offered ∧ dropped) → t.cat.set? r.id = some { r with state := .closed }) ∧ (∀ n, n ≠ r.id → t.cat.set? n = k.cat.set? n)
      ∧ t.cat.cart? y.label = some { y with frames := y.frames + 1, eod := y.eod + 1 }
      ∧ (k.store.auto = false → t.store = changed)
      ∧ (k.store.auto = true → k.store.state = .saving ∨ k.store.op = .read ∨ k.store.reload = .again → t.store = { changed with pending := true })
      ∧ (k.store.auto = true → k.store.state ≠ .saving → k.store.op ≠ .read → k.store.reload ≠ .again →
          t.store = { changed with state := .saving, changed := false, snapshot := some { k.image with catalog := t.cat }, op := .erase, served := [], flash := none })
      ∧ t.chan c = { k.chan c with session := none, credits := 0, bank0 := .empty, bank1 := .empty, buf := .free, coder := .idle, mode := .idle }
      ∧ t.chan c.other = k.chan c.other
      ∧ t.tr c = { k.tr c with state := .ejecting, pos := (k.tr c).pos + 1, order := some { kind := .eject, task := .eject } }
      ∧ t.picker.queue = k.picker.queue ++ [{ Order.blank with
          id := k.picker.freeId, requester := some (.link x.owner), kind := .unload, source := .element (.transport c), dest := .home, wanted := some y.label
          state := .ejectWait }]
      ∧ ((k.link x.owner).online = false ∨ (k.link x.owner).tx ≠ none → (k.link x.owner).noticeCount < 16 →
          (t.link x.owner).notices = (k.link x.owner).notices ++ [.setClosed x.setId r.blocks r.records r.native r.coded])

/-- R133, R134: END_OF_MEDIA refuses a data block: the position, the frames and the end-of-data stay; early-warning passed becomes yes, and where it was no, EARLY_WARNING
goes to the owner; the bank keeps its block as RETAINED, the session is SPANNING, and the summary with flag CONTINUES is written where the block was refused. R127: in
answer to a block of an activity that has ended, it leaves the transport MOUNTED where it stood, with no order. A report that answers no write of a data block is
discarded (the model's choice, assumption 42, DEDUCED). R134, R135: the CONTINUES summary has been written: the cartridge is FULL and its UNLOAD HOME is raised with its
eject ordered; the POOL choice is made anew, and the chosen cartridge's LOAD raised, or the session waits in NEED_CARTRIDGE with its timer running; the RETAINED bank
keeps its block. R135, R136: the volume block of the span cartridge has been written: the cartridge is OPEN with 1 frame, the set gets its extent from position 1 with the
retained block's number, and that block is built anew and written on it. -/
def Obligations.EndOfMediaSpans : Prop :=
  ∀ (s : State) (c : Chan), Answered s.ctl →
    let k := s.ctl
    ((∀ bytes task, (k.tr c).order = some { kind := .write bytes, task := task } → task ≠ .dropped ∧ ∀ i, task ≠ .sDataWrite i) → exec (.endOfMedia c) s = .next s)
    ∧ (∀ bytes, (∀ d, (k.chan d).drain = none) → (k.tr c).state = .writing → (k.tr c).order = some { kind := .write bytes, task := .dropped } → (k.tr c).pendingEject = false →
        exec (.endOfMedia c) s = .next (s.withCtl (k.setTr c { k.tr c with state := .mounted, order := none })))
    ∧ ∀ (x : Session) (r : SetRec) (y : Cart) (i : BankIx) (bytes : List Byte), (∀ d, (k.chan d).drain = none) → (k.chan c).claim = none → (k.tr c).state = .writing →
        (k.tr c).order = some { kind := .write bytes, task := .sDataWrite i } → (k.tr c).pendingEject = false →
        k.session c = some x → x.state = .streaming → ((k.chan c).bank i).state = .writing → ((k.chan c).bank i.other).state ≠ .empty →
        k.cat.set? x.setId = some r → r.extents.length < 4 → k.cartIn c = some y → LawOfWriting k y (k.entryIn c) → (k.tr c).pos = y.eod →
        let z : Cart := { y with early := true }
        let spans : Ctl → Ctl := fun k' =>
          (k'.setChan c { (k.chan c).setBank i { (k.chan c).bank i with state := .retained } with session := some { x with state := .spanning } }).setTr c
            { k.tr c with state := .writing, order := some { kind := .write (summaryBlock z r .continues), task := .sSumWrite .continues } }
        (y.early = true → exec (.endOfMedia c) s = .next (s.withCtl (spans k)))
        ∧ (y.early = false → ∃ cat : Catalog, cat.cart? y.label = some z ∧ (∀ l, l ≠ y.label → cat.cart? l = k.cat.cart? l) ∧ cat.sets = k.cat.sets
          ∧ exec (.endOfMedia c) s = .next (s.withCtl
              (spans ({ k with cat := cat, store := k.store.noteChange }.notify (.link x.owner) (.earlyWarning x.setId y.label)))))
    ∧ ∀ (x : Session) (r : SetRec) (y : Cart) (bytes : List Byte) (task : Task), (∀ d, (k.chan d).drain = none) → (k.tr c).state = .writing →
        (k.tr c).order = some { kind := .write bytes, task := task } → (k.tr c).pendingEject = false → k.session c = some x → x.state = .spanning →
        k.cat.set? x.setId = some r → r.state = .writing → k.cartIn c = some y →
        (task = .sSumWrite .continues → (k.elem (.transport c)).occ = .full → y.frames + 1 ≤ (classOf y.label).warning ∨ y.early = true → k.picker.queue.length < 8 →
          k.unloadRaised c (some (.link x.owner)) (some (.chan c)) = false → (∀ j, ((k.chan c).bank j).state ≠ .empty) →
          let x2 : Session := { x with contWritten := true, chosen := none }
          let k2 : Ctl := { k with
            cat := k.cat.modCart y.label fun z => { z with frames := z.frames + 1, eod := z.eod + 1, state := .full }
            store := k.store.noteChange
            chans := k.chans.set c { k.chan c with session := some x2 }
            trans := k.trans.set c { k.tr c with state := .ejecting, pos := (k.tr c).pos + 1, order := some { kind := .eject, task := .eject } }
            picker := { k.picker with
              queue := k.picker.queue ++ [{ Order.blank with
                id := k.picker.freeId, requester := some (.link x.owner), raisedBy := some (.chan c), kind := .unload, source := .element (.transport c), dest := .home
                wanted := some y.label, state := .ejectWait }]
              nextId := wrapNext 255 k.picker.freeId } }
          let becomes : Session → Ctl := fun z => k2.setChan c { k.chan c with session := some z }
          (k2.poolChoice x2 = none → exec (.blockWritten c) s = .next (s.withCtl
            ((becomes { x2 with state := .needCartridge, needTimer := true }).notify (.link x.owner) (.needCartridge x.setId))))
          ∧ ((∀ z ∈ k.cat.carts, z.state ≠ .blank ∧ z.state ≠ .scratch) → k2.poolChoice x2 = none)
          ∧ ∀ l src, k2.poolChoice x2 = some l → k2.findLabel l = some (.slot src) → ∃ t, exec (.blockWritten c) s = .next (s.withCtl t)
            ∧ Raised (becomes { x2 with chosen := some l, needTimer := false }) t fun id => activityLoad id (.link x.owner) (.chan c) (.slot src) c .write l)
        ∧ ∀ b : CodedBlock, task = .sVolWrite → (k.tr c).pos = 0 → x.chosen = some y.label → y.state = .blank ∨ y.state = .scratch → (k.chan c).buf = .held b →
          ((k.chan c).bank b.bank).state = .retained →
          let z : Cart := { y with frames := 1, eod := 1, state := .opened, sets := y.sets ++ [x.setId] }
          let u : SetRec := { r with extents := r.extents ++ [{ label := y.label, firstPos := 1, firstBlock := b.stamp.block, count := 0 }] }
          LawOfWriting k z (k.entryIn c) → 1 + b.cost ≤ (classOf y.label).capacity - 2 →
          ∃ cat : Catalog, cat.cart? y.label = some z ∧ cat.set? x.setId = some u ∧ cat.nextSetId = k.cat.nextSetId
            ∧ (∀ l, l ≠ y.label → cat.cart? l = k.cat.cart? l) ∧ (∀ n, n ≠ x.setId → cat.set? n = k.cat.set? n)
            ∧ exec (.blockWritten c) s = .next (s.withCtl { k with
                cat := cat, store := k.store.noteChange
                trans := k.trans.set c { k.tr c with state := .writing, pos := 1, order := some { kind := .write (dataBlock z u b), task := .sDataWrite b.bank } }
                chans := k.chans.set c { (k.chan c).setBank b.bank { (k.chan c).bank b.bank with state := .writing } with session := some { x with contWritten := false } } })

/-- R128, R138: a MEDIA_FAULT of the outstanding order makes the catalogued cartridge SUSPECT and leaves the position; a HARDWARE_FAULT, and the 600 s timer, make the
transport FAULTED and tell every requester, with the record as it was. Here the order is one of an ended activity, and nothing waits on the channel. A FAULTED transport's
reset that was asked for makes it what it reports; one that fails leaves it FAULTED. R129: an order that its transport does not take is answered FAULT at once: before the
command that sent it ends, its activity is told, and it leaves the transport and the record alone; so no command leaves one unanswered. The model's choices: the order of
the answers (assumption 25), and that a transport which is EMPTY when the order of one fetched meanwhile, or an EJECT, fails stays EMPTY (assumptions 61 and 71, DEDUCED).
-/
def Obligations.TransportFaults : Prop :=
  (∀ (s : State) (c : Chan), (∀ d, (s.ctl.chan d).drain = none) → Answered s.ctl →
    let k := s.ctl
    let t := k.tr c
    (t.order = none → exec (.transportFault c .media) s = .next s ∧ exec (.transportFault c .hardware) s = .next s
        ∧ exec (.transportOrderTimerExpiry c) s = .next s)
    ∧ (∀ o, t.order = some o → o.task = .dropped → t.pendingEject = false → NothingWaits k c →
        (∀ y, k.cartIn c = some y → y.state ≠ .suspect → t.state = .moving ∨ t.state = .reading ∨ t.state = .writing ∨ t.state = .ejecting ∨ t.state = .empty
            ∨ o.kind = .thread → ∃ cat : Catalog, cat.cart? y.label = some { y with state := .suspect } ∧ cat.sets = k.cat.sets
          ∧ exec (.transportFault c .media) s = .next (s.withCtl
              { k.setTr c { t with state := if o.kind = .thread ∨ t.state = .empty then .empty else .mounted, order := none } with
                cat := cat, store := k.store.noteChange }))
        ∧ (t.state ≠ .faulted → (∀ q ∈ k.picker.queue, q.state ≠ .ejectWait) →
            let failed := (k.setTr c { t with state := .faulted, order := none }).notifyAll (.transport c .faulted)
            exec (.transportFault c .hardware) s = .next (s.withCtl failed) ∧ exec (.transportOrderTimerExpiry c) s = .next (s.withCtl failed)))
    ∧ (∀ r, t.resetting = false → exec (.transportResetDone c r) s = .next s)
    ∧ (t.resetting = true →
        exec (.transportResetDone c .noCartridge) s = .next (s.withCtl ((k.setTr c
          { t with resetting := false, state := .empty, present := false, tabSeen := none }).notifyAll (.transport c .empty)))
        ∧ (∀ tab, exec (.transportResetDone c (.mounted tab)) s = .next (s.withCtl
            (((k.setTr c { t with resetting := false, state := .mounted, pos := 0, present := true, tabSeen := some tab }).setElem (.transport c)
              { k.elem (.transport c) with entry := (k.elem (.transport c)).entry.map fun x => { x with tab := tab.tab } }).notifyAll (.transport c .mounted))))
        ∧ ∀ h, exec (.transportResetDone c (.fault h)) s = .next (s.withCtl (k.setTr c { t with resetting := false, present := h }))))
  ∧ (∀ (k : Ctl) (c : Chan) (task : Task), (k.tr c).rejected = some task → (k.tr c.other).rejected = none →
      let t := ((k.setTr c { k.tr c with rejected := none }).faultFor c task (decide ((k.tr c).state ≠ .faulted))).finishDrains
      Answered t → k.commandEnd = t)
  ∧ (∀ (i : Instr) (s t : State), Answered s.ctl → exec i s = .next t → Answered t.ctl) ∧ Answered State.reset.ctl

/-! ## Verification (chapter 8) -/

/-- R142, R151, R140: the first condition that holds answers VERIFY_SET, and an accepted one joins the queue's tail with the owner's policy; CANCEL_VERIFY of a WAITING
entry takes it out in silence. SET_VERIFY_POLICY stores its fields clamped for the sender alone, returns them, makes the skip counter 0 and leaves an entry of the
link's that has started one pass to run. -/
def Obligations.VerifyRequestsAnswered : Prop :=
  ∀ (s : State) (p : Requester) (q : QueuedReq),
    let k := s.ctl
    (∀ n, AtHead s p q (.verifySet n) →
      (k.cat.set? n = none → exec (.verifySet p n) s = .next (s.withCtl (k.afterAnswer p q .notFound)))
      ∧ ∀ r, k.cat.set? n = some r →
        let code : Code :=
          if p ≠ .panel ∧ p ≠ .link r.owner then .notOwner
          else if r.state = .opening ∨ r.state = .writing then .wrongState
          else if r.state = .expired then .setExpired
          else if (k.verify.queue.find? fun v => decide (v.set = n)) ≠ none then .busy
          else if 16 ≤ k.verify.queue.length then .queueFull
          else .accepted
        (code ≠ .accepted → exec (.verifySet p n) s = .next (s.withCtl (k.afterAnswer p q code)))
        ∧ (code = .accepted →
            let o := k.verify.policies.get r.owner
            exec (.verifySet p n) s = .next (s.withCtl { k.afterAnswer p q .accepted with verify := { k.verify with queue := k.verify.queue ++ [
              { set := n, origin := .request, requestedBy := some p, mode := o.mode, pattern := o.pattern, passes := o.passes, passesLeft := o.passes, state := .waiting
                pauseAsked := false, resume := none, bad := 0, badList := [], badMore := false, runRec := none, expected := 0, extent := 0, lastFault := none, done := 0
                chan := none, waits := false }] } })))
    ∧ (∀ l n, p = .link l → AtHead s p q (.cancelVerify n) → Answered k →
        (k.cat.set? n = none ∨ k.verifyOf n = none → exec (.cancelVerify p n) s = .next (s.withCtl (k.afterAnswer p q .notFound)))
        ∧ ∀ r v, k.cat.set? n = some r → k.verifyOf n = some v →
          (r.owner ≠ l → exec (.cancelVerify p n) s = .next (s.withCtl (k.afterAnswer p q .notOwner)))
          ∧ (r.owner = l → v.state = .waiting → exec (.cancelVerify p n) s = .next (s.withCtl { k.afterAnswer p q .ok with
              verify := { k.verify with queue := k.verify.queue.filter fun w => w.set ≠ n } })))
    ∧ ∀ l trig skip passes mode pat overlap, p = .link l → AtHead s p q (.setVerifyPolicy trig skip passes mode pat overlap) →
        (1 < trig ∨ 1 < mode ∨ 1 < overlap ∨ (∃ n, pat = .other n) →
          exec (.setVerifyPolicy p trig skip passes mode pat overlap) s = .next (s.withCtl (k.afterAnswer p q .badArgument)))
        ∧ (trig ≤ 1 → mode ≤ 1 → overlap ≤ 1 → (∀ n, pat ≠ .other n) →
          let clamp : Nat → Nat → Nat → Nat := fun lo hi n => if n < lo then lo else if hi < n then hi else n
          let o : Policy :=
            { trigger := if trig = 0 then .onClose else .manual, skip := clamp 1 16 skip, passes := clamp 1 4 passes, mode := if mode = 0 then .quick else .full
              pattern := match pat with
                | .everyNth n => .everyNth (clamp 2 64 n)
                | .run a t => .run (clamp 1 (clamp 2 64 t - 1) a) (clamp 2 64 t)
                | _ => .all
              overlap := if overlap = 0 then .queue else .drop }
          exec (.setVerifyPolicy p trig skip passes mode pat overlap) s = .next (s.withCtl { k.afterAnswer p q .ok (.policy o) with
            verify := { policies := k.verify.policies.set l o, skips := k.verify.skips.set l 0
                        queue := k.verify.queue.map fun v =>
                          if v.state ≠ .waiting ∧ (k.cat.set? v.set).map (·.owner) = some l then { v with passesLeft := 1 } else v }
            store := k.store.noteChange }))

/-- R143, R144: with no entry RUNNING, the first entry that can start does. A fresh one whose first cartridge stands MOUNTED at position 0 in the transport of an IDLE
channel takes that channel, and the volume block is read; a pass begins with its working results empty. R145 to R148: a block read for an entry inside its extent. A block
whose header is accepted (GOOD, or CRC_BAD where the expected block is not selected; a data block of the set and of the cartridge's pass) and that has the expected number
passes where it is not selected, or where it is GOOD and the entry QUICK; where it is GOOD, selected and the entry FULL, the expander starts on it with the slot that its
header names. A CRC_BAD block that is selected, one whose header is not accepted, and one that cannot be used count as bad under the expected number, with at most 8
numbers kept, and the running record count is absent. A lower number counts as bad under its own, and the expected block stays; a higher one counts the blocks before it
as bad. The next block is then read. At the end of the last extent of a last pass, after its last block or where the tape ends before it, the entry leaves the queue with
its outcome and its findings in the set's record and VERIFY_DONE to the owner; a pass of a set with one extent is followed by the next, with LOCATE to its first block.
R150: a pause asked while a block was being read is taken once its result is recorded, before the end of the pass is judged: the entry is PAUSED where it is, to resume at
the expected block, in the extent that holds it, extents with no block being passed over. The channel is then IDLE; or where a restore that reads the cartridge standing
there has claimed it (R158), the channel is in RESTORE, the restore in LOADING, RESTORE_STARTED is sent to its requester, and the tape is located at the volume block.
Pattern EVERY_NTH selects the multiples of N, RUN(K of T) the first K of every T. -/
def Obligations.VerifyReads : Prop :=
  (∀ s : State,
      let k := s.ctl
      (k.verify.queue = [] → Answered k → exec .verifyEntryStart s = .next s)
      ∧ ∀ (v : VerifyEntry) (rest : List VerifyEntry) (x : Extent) (xs : List Extent) (r : SetRec) (y : Cart) (c : Chan), k.verify.queue = v :: rest →
          (∀ w ∈ k.verify.queue, w.state ≠ .running) → (∀ w ∈ rest, w.set ≠ v.set) → v.resume = none → k.cat.set? v.set = some r → r.extents = x :: xs →
          0 < x.count →
          k.cat.cart? x.label = some y → y.loc ≠ none → k.findLabel x.label = some (.transport c) → (k.elem (.transport c)).occ = .full → k.labelAt (.transport c) = some x.label →
          k.usedBySession x.label = false → k.usedByRestore x.label none = false → k.usedByRecovery x.label = false → k.chanIdle c = true →
          (k.tr c).state = .mounted → (k.tr c).order = none → (k.tr c).pos = 0 → Answered k →
          let started : VerifyEntry := { v with state := .running, pauseAsked := false, chan := some c, waits := false, bad := 0, badList := [], badMore := false
                                                runRec := some 0, expected := 0, extent := 0 }
          exec .verifyEntryStart s = .next (s.withCtl { k with
            verify := { k.verify with queue := started :: rest }
            chans := k.chans.set c { k.chan c with mode := .verify }
            trans := k.trans.set c { k.tr c with state := .reading, order := some { kind := .read, task := .vVolRead } } }))
  ∧ (∀ (s : State) (c : Chan) (v : VerifyEntry) (x : Extent) (y : Cart), (∀ d, (s.ctl.chan d).drain = none) → Answered s.ctl → s.ctl.verifyOn c = some v →
      s.ctl.verifyExtent v = some x → (∀ w ∈ s.ctl.verify.queue, w.set = v.set → w = v) → v.pauseAsked = false → v.badList.length ≤ 8 → s.ctl.cartIn c = some y →
      (s.ctl.tr c).state = .reading → (s.ctl.tr c).order = some { kind := .read, task := .vRead } → (s.ctl.tr c).pendingEject = false →
      let k := s.ctl
      let last := x.firstBlock + x.count
      let accepted : TapeBlock → Prop := fun b => b.hdr.kind = 2 ∧ b.hdr.set = v.set ∧ b.hdr.passTag = y.generation % 4
      let counted : List Nat → Option Nat → Nat → VerifyEntry := fun bad rec next => { v with
        bad := v.bad + bad.length, badList := (v.badList ++ bad).take 8, badMore := v.badMore || decide (8 < v.badList.length + bad.length), runRec := rec, expected := next }
      let goesOn : VerifyEntry → Ctl := fun w => { k with
        verify := { k.verify with queue := k.verify.queue.map fun u => if u.set = v.set then w else u }
        trans := k.trans.set c { k.tr c with state := .reading, pos := (k.tr c).pos + 1, order := some { kind := .read, task := .vRead } } }
      let after : TapeBlock → Option Nat := fun b => some (b.hdr.record + b.hdr.ends)
      ((k.tr c).pos + 1 < x.firstPos + x.count → v.expected + 1 < last →
        (∀ bytes b, checkBlock bytes = .good b → accepted b → b.hdr.block = v.expected → v.mode = .quick ∨ v.pattern.selects v.expected = false →
          exec (.blockRead c bytes) s = .next (s.withCtl (goesOn (counted [] (after b) (v.expected + 1)))))
        ∧ (∀ bytes b, checkBlock bytes = .good b → accepted b → b.hdr.block = v.expected → v.mode = .full → v.pattern.selects v.expected = true →
          exec (.blockRead c bytes) s = .next (s.withCtl { k with
            trans := k.trans.set c { k.tr c with state := .mounted, pos := (k.tr c).pos + 1, order := none }
            chans := k.chans.set c { k.chan c with expander := .expanding b (k.dicts.slot? b.hdr.dict) } }))
        ∧ (∀ bytes b, checkBlock bytes = .crcBad b → accepted b → b.hdr.block = v.expected → v.pattern.selects v.expected = false →
          exec (.blockRead c bytes) s = .next (s.withCtl (goesOn (counted [] (after b) (v.expected + 1)))))
        ∧ (∀ bytes, checkBlock bytes = .malformed ∨ (∃ b, checkBlock bytes = .crcBad b ∧ v.pattern.selects v.expected = true)
            ∨ (∃ b, (checkBlock bytes = .good b ∨ checkBlock bytes = .crcBad b) ∧ ¬accepted b) →
          exec (.blockRead c bytes) s = .next (s.withCtl (goesOn (counted [v.expected] none (v.expected + 1)))))
        ∧ exec (.blockUnreadable c) s = .next (s.withCtl (goesOn (counted [v.expected] none (v.expected + 1))))
        ∧ (∀ bytes b, checkBlock bytes = .good b → accepted b → b.hdr.block < v.expected →
          exec (.blockRead c bytes) s = .next (s.withCtl (goesOn (counted [b.hdr.block] v.runRec v.expected))))
        ∧ (∀ bytes b, checkBlock bytes = .good b → accepted b → v.expected < b.hdr.block → b.hdr.block + 1 < last →
          v.mode = .quick ∨ v.pattern.selects b.hdr.block = false →
          exec (.blockRead c bytes) s = .next (s.withCtl
            (goesOn (counted (List.range' v.expected (b.hdr.block - v.expected)) (after b) (b.hdr.block + 1))))))
      ∧ ∀ (r : SetRec) (i : Instr) (w : VerifyEntry), k.cat.set? v.set = some r → v.expected < last → v.extent + 1 = r.extents.length →
        (i = .endOfData c (k.tr c).pos ∧ w = counted (List.range' v.expected (last - v.expected)) v.runRec last
          ∨ ∃ bytes b, i = .blockRead c bytes ∧ checkBlock bytes = .good b ∧ accepted b ∧ b.hdr.block = v.expected ∧ v.mode = .quick ∧ v.expected + 1 = last
            ∧ w = counted [] (after b) last) →
        let outcome : VerifyOutcome := if 0 < w.bad then .failed else if v.pattern = .all then .passed else .sampled
        (v.passesLeft ≤ 1 ∨ 0 < w.bad → k.session c = none → (k.chan c).claim = none → k.picker.running = none → k.picker.held = [] → ∃ t,
          exec i s = .next (s.withCtl t) ∧ t.verify.queue = (k.verify.queue.filter fun u => u.set ≠ v.set) ∧ (t.chan c).mode = .idle ∧ t.inv = k.inv
          ∧ t.cat.carts = k.cat.carts ∧ t.cat.set? v.set = some
              { r with passes := r.passes + 1, verify := outcome.status, bad := w.bad, badList := w.badList, badMore := w.badMore }
          ∧ ((k.link r.owner).online = false → (k.link r.owner).noticeCount < 16 →
              (t.link r.owner).notices = (k.link r.owner).notices ++ [.verifyDone v.set outcome (v.done + 1) w.bad none]))
        ∧ (1 < v.passesLeft → w.bad = 0 → r.extents = [x] → k.labelIn c = some x.label → ∃ t, exec i s = .next (s.withCtl t)
          ∧ t.cat = { k.cat with sets := k.cat.sets.map fun z : SetRec => if z.id = v.set then { z with passes := z.passes + 1 } else z }
          ∧ t.verify = { k.verify with queue := k.verify.queue.map fun u => if u.set = v.set then
              { w with passesLeft := v.passesLeft - 1, done := v.done + 1, bad := 0, badList := [], badMore := false, runRec := some 0, expected := 0, extent := 0 } else u }
          ∧ t.tr c = { k.tr c with state := .moving, pos := if i = .endOfData c (k.tr c).pos then (k.tr c).pos else (k.tr c).pos + 1
                                   order := some { kind := .locate (x.firstPos + (0 - x.firstBlock)), task := .vLocate } }))
  ∧ (∀ (s : State) (c : Chan) (v : VerifyEntry) (x : Extent) (y : Cart) (bytes : List Byte) (b : TapeBlock)
        (r : SetRec) (empty more : List Extent), (∀ d, (s.ctl.chan d).drain = none) → Answered s.ctl → s.ctl.verifyOn c = some v → s.ctl.verifyExtent v = some x →
      (∀ w ∈ s.ctl.verify.queue, w.set = v.set → w = v) → v.pauseAsked = true → s.ctl.cartIn c = some y → (s.ctl.tr c).state = .reading →
      (s.ctl.tr c).order = some { kind := .read, task := .vRead } → (s.ctl.tr c).pendingEject = false → checkBlock bytes = .good b →
      b.hdr.kind = 2 ∧ b.hdr.set = v.set ∧ b.hdr.passTag = y.generation % 4 → b.hdr.block = v.expected → v.mode = .quick ∨ v.pattern.selects v.expected = false →
      s.ctl.session c = none → s.ctl.picker.running = none → s.ctl.picker.held = [] → s.ctl.cat.set? v.set = some r →
      r.extents.drop (v.extent + 1) = empty ++ more →
      let k := s.ctl
      let last := x.firstBlock + x.count
      empty.length ≤ 3 → (∀ z ∈ empty, z.count = 0 ∧ z.firstBlock ≤ last) → (∀ z, more.head? = some z → 0 < z.count ∧ last < z.firstBlock + z.count) →
      v.expected + 1 < last ∧ (k.tr c).pos + 1 < x.firstPos + x.count ∨ v.expected + 1 = last →
      let paused : VerifyEntry := { v with state := .paused, pauseAsked := false, resume := some (v.expected + 1), chan := none, waits := false
                                           runRec := some (b.hdr.record + b.hdr.ends), expected := v.expected + 1
                                           extent := if v.expected + 1 = last then v.extent + 1 + empty.length else v.extent }
      let isPaused : Ctl → Prop := fun t => t.verify.queue = paused :: (k.verify.queue.filter fun w => w.set ≠ v.set)
        ∧ t.chan c.other = k.chan c.other ∧ t.inv = k.inv ∧ t.cat = k.cat ∧ t.panel = k.panel
      ((k.chan c).claim = none → ∃ t, exec (.blockRead c bytes) s = .next (s.withCtl t) ∧ isPaused t ∧ (t.chan c).mode = .idle ∧ t.restore = k.restore ∧ t.links = k.links
        ∧ t.tr c = { k.tr c with state := .mounted, pos := (k.tr c).pos + 1, order := none })
      ∧ ∀ id q, (k.chan c).claim = some (.restore id) → k.restore? id = some q → q.state = .claiming → k.restoreLabel q = k.labelIn c → k.labelIn c ≠ none →
          ∃ t, exec (.blockRead c bytes) s = .next (s.withCtl t) ∧ isPaused t ∧ (t.chan c).mode = .restore ∧ (t.chan c).claim = none
            ∧ t.restore? id = some { q with state := .loading, chan := some c } ∧ t.restore.queue = k.restore.queue
            ∧ t.tr c = { k.tr c with state := .moving, pos := (k.tr c).pos + 1, order := some { kind := .locate 0, task := .rVolLocate } }
            ∧ t.links = (k.notify (.link q.requester) (.restoreStarted id q.set c)).links)
  ∧ (∀ n b : Nat, 0 < n → ((Pattern.everyNth n).selects b = true ↔ n ∣ b)) ∧ ∀ m t b : Nat, (Pattern.run m t).selects b = true ↔ b % t < m

/-! ## Restore (chapter 9) -/

/-- R155, R159, R165: RESTORE from a link. A damage rule or count outside its list is BAD_ARGUMENT; then the set, its start cartridge and the reservation of the
element where it stands, or of its catalog location where that is UNCERTAIN, are judged. A
restore that cannot take a channel waits at the queue's tail with the next free id and its last record limited to the set's, or is BUSY with 4 waiting. CANCEL_RESTORE
takes a waiting one out in silence. -/
def Obligations.RestoreRequestsAnswered : Prop :=
  ∀ (s : State) (l : Link) (q : QueuedReq), Answered s.ctl →
    let k := s.ctl
    let answered : Code → Host.Outcome State Fault Refusal := fun code => .next (s.withCtl (k.afterAnswer (.link l) q code))
    (∀ n first count damage, AtHead s (.link l) q (.restore n first count damage) →
      let e := exec (.restore (.link l) n first count damage) s
      (1 < damage ∨ count = .count 0 ∨ (∃ j, count = .other j) → e = answered .badArgument)
      ∧ (damage ≤ 1 → count ≠ .count 0 → (∀ j, count ≠ .other j) →
        (k.cat.set? n = none → e = answered .notFound)
        ∧ ∀ r, k.cat.set? n = some r →
          (r.state = .expired → e = answered .setExpired)
          ∧ (r.state = .opening ∨ r.state = .writing → e = answered .wrongState)
          ∧ (r.state = .closed ∨ r.state = .truncated →
            (r.dictGen ≠ k.dicts.gen r.dict → e = answered .dictionaryChanged)
            ∧ (r.dictGen = k.dicts.gen r.dict → r.records ≤ first → e = answered .badArgument)
            ∧ ∀ b ix x y, r.dictGen = k.dicts.gen r.dict → first < r.records → r.startPlace first = some (b, ix) → r.extents[ix]? = some x → k.cat.cart? x.label = some y →
              let reserved := ∃ el, (k.findLabel y.label = some el ∨ k.findLabel y.label = none ∧ y.loc = some el) ∧ (k.elem el).reserved = some (.link l.other)
              let last := match count with
                | .count m => min (first + m - 1) (r.records - 1)
                | _ => r.records - 1
              let ctx := RestoreCtx.fresh k.restore.freeId l n first last (decide (damage = 1)) b ix
              (y.loc = none → e = answered .noCartridge)
              ∧ (y.loc ≠ none → reserved → e = answered .reserved)
              ∧ (y.loc ≠ none → ¬reserved → k.restoreChoice ctx = .waits →
                (4 ≤ k.restore.queue.length → e = answered .busy)
                ∧ (k.restore.queue.length < 4 → e = .next (s.withCtl { k.afterAnswer (.link l) q .accepted (.restoreId k.restore.freeId) with
                    restore := { k.restore with queue := k.restore.queue ++ [{ ctx with wasQueued := true }], nextId := wrapNext 255 k.restore.freeId } }))))))
    ∧ ∀ id, AtHead s (.link l) q (.cancelRestore id) →
        ((∀ r ∈ k.restore.queue ++ k.restore.running, r.id ≠ id) → exec (.cancelRestore (.link l) id) s = answered .notFound)
        ∧ ∀ r, k.restore.queue.find? (fun r => decide (r.id = id)) = some r →
          (r.requester ≠ l → exec (.cancelRestore (.link l) id) s = answered .notOwner)
          ∧ (r.requester = l → exec (.cancelRestore (.link l) id) s = .next (s.withCtl { k.afterAnswer (.link l) q .ok with
              restore := { k.restore with queue := k.restore.queue.filter fun r => r.id ≠ id } }))

/-- R162: a CREDIT frame adds to the receive credits of the link's restore on that channel, 255 at most, and stops the stall timer; with a frame ready the frame goes to
the link. A frame sent uses one credit and counts the record it ends; the next one goes, or waits for credit with the stall timer running. The stall timer's expiry ends
the restore CANCELLED with STALLED and frees its channel. A CREDIT frame of another link has no effect, and by the model's choice (assumption 9, DEDUCED) none has on an OFFLINE
link. -/
def Obligations.RestoreFlow : Prop :=
  ∀ (s : State) (c : Chan) (r : RestoreCtx), s.ctl.restoreOn c = some r → s.ctl.restore? r.id = some r → Answered s.ctl →
    let k := s.ctl
    (∀ n, (k.link r.requester).online = true → r.frames = [] → ∃ t, exec (.creditFrameReceived r.requester c.num n) s = .next (s.withCtl t)
      ∧ t = { k with restore := t.restore } ∧ t.restore? r.id = some { r with credits := min 255 (r.credits + n), stall := r.stall && decide (n = 0) })
    ∧ (∀ n f rest, (k.link r.requester).online = true → r.frames = f :: rest → r.sending = false → 0 < n → ∃ t,
        exec (.creditFrameReceived r.requester c.num n) s = .next (s.withCtl t)
        ∧ t = { k with restore := t.restore, links := k.links.set r.requester ((k.link r.requester).offerData f.frame) }
        ∧ t.restore? r.id = some { r with credits := min 255 (r.credits + n), stall := false, sending := true })
    ∧ (∀ l n, l ≠ r.requester ∨ (k.link l).online = false → exec (.creditFrameReceived l c.num n) s = .next s)
    ∧ (∀ f f2 rest, r.frames = f :: f2 :: rest → f.frame.chan = c → r.sending = true → (k.link r.requester).tx = some (.data f.frame) →
        (k.link r.requester).data.get c = none → ∃ t, exec (.frameSent r.requester) s = .next (s.withCtl t)
          ∧ t.restore? r.id = some { r with
              frames := f2 :: rest, credits := r.credits - 1, delivered := r.delivered + (if f.ended = none then 0 else 1), inDelivery := f.within
              nextRec := match f.ended, f.within with
                | some n, _ => n + 1
                | none, some n => n + 1
                | none, none => r.nextRec
              sending := decide (1 < r.credits), stall := if 1 < r.credits then false else true })
    ∧ (r.stall = false → exec (.stallTimerExpiry c) s = .next s)
    ∧ (r.stall = true → r.state = .delivering → r.chan = some c → k.session c = none → (k.chan c).claim = none → (k.tr c).order = none →
        k.picker.running = none → k.picker.held = [] → ∃ t, exec (.stallTimerExpiry c) s = .next (s.withCtl t)
          ∧ t.inv = k.inv ∧ t.cat = k.cat ∧ t.standing = k.standing ∧ t.restore = { k.restore with running := k.restore.running.filter fun x => x.id ≠ r.id }
          ∧ (t.chan c).mode = .idle ∧ (t.chan c).drain = none ∧ (t.chan c).expander = .idle
          ∧ t.link r.requester = { k.link r.requester with data := (k.link r.requester).data.set c none }.pushNotice
              (.restoreDone r.id r.set .cancelled r.delivered r.damaged (some .stalled)
                (some r.firstLeft)))

/-- R156, R158, R160: the queue is looked through. A lone waiting restore whose cartridge stands MOUNTED at position 0 in the transport of an IDLE channel takes it:
RESTORE_STARTED goes to its requester, and the volume block is read. R157: what the channel choice gives, by where the cartridge of the restore's extent stands and what
uses it; for one in a slot or in M, of the channels whose transport is neither FAULTED nor reserved by another, the lowest IDLE one, else the lowest whose verify can be
asked to pause, else the lowest whose STREAMING session yields. R164: a restore that has delivered an extent's last block enters SWITCHING at the next extent. There its
cartridge is judged: one in the restore's own transport has its volume block read; one in use, in P or UNCERTAIN is waited for; one in the other channel's transport, that
channel IDLE, is ordered home; one in a slot or in M is loaded, once what stands in the transport has been ordered home, by the displaced session where it is that
session's; one that is not to be had is damage with NO_CARTRIDGE, which ends a restore under STOP, ends a record in delivery with a damaged frame under SKIP, and is told
up to the last record where no extent follows. An extent with no block is passed over. Once its volume block is good the tape is located at the extent's first position.
The model's choices: a cartridge that stands in the transport of a channel that is not IDLE is waited for (assumption 92, DEDUCED); the data's end before the last record
is damage with READ_FAULT (assumption 22, DEDUCED); a DATA_IN frame not begun is withdrawn at the end (assumption 89). -/
def Obligations.RestoreTakesChannel : Prop :=
  (∀ (s : State) (r : RestoreCtx) (c : Chan) (x : Label), Answered s.ctl →
    let k := s.ctl
    (k.restore.queue = [] → (∀ y ∈ k.restore.running, y.state ≠ .switching) → exec .restorePlacement s = .next s)
    ∧ (k.restore.queue = [r] → (∀ y ∈ k.restore.running, y.state ≠ .switching ∧ y.id ≠ r.id) → k.extentLabel r.set r.extent = some x →
        k.findLabel x = some (.transport c) → k.labelIn c = some x → k.usedBySession x = false → k.chanIdle c = true →
        (k.tr c).state = .mounted → (k.tr c).order = none → (k.tr c).pos = 0 →
        exec .restorePlacement s = .next (s.withCtl ({ k with
          restore := { k.restore with queue := [], running := k.restore.running ++ [{ r with state := .loading, chan := some c }] }
          chans := k.chans.set c { k.chan c with mode := .restore }
          trans := k.trans.set c { k.tr c with state := .reading, order := some { kind := .read, task := .rVolRead } } }.notify (.link r.requester)
            (.restoreStarted r.id r.set c)))))
  ∧ (∀ (s : State) (c : Chan) (r : RestoreCtx), s.ctl.restoreOn c = some r → s.ctl.restore? r.id = some r → s.ctl.restore.running = [r] → s.ctl.restore.queue = [] →
      r.chan = some c → (∀ d, (s.ctl.chan d).drain = none) → Answered s.ctl → (s.ctl.tr c).pendingEject = false → s.ctl.picker.running = none → s.ctl.picker.held = [] →
      let k := s.ctl
      let becomes : RestoreCtx → Ctl := fun u => { k with restore := { k.restore with running := [u] } }
      let toVolume : Ctl → Ctl := fun t => t.setTr c (if (k.tr c).pos = 0 then { k.tr c with state := .reading, order := some { kind := .read, task := .rVolRead } }
        else { k.tr c with state := .moving, order := some { kind := .locate 0, task := .rVolLocate } })
      let ends : List Notice → Prop := fun told => ∃ t, exec .restorePlacement s = .next (s.withCtl t) ∧ t.restore = { k.restore with running := [] } ∧ t.cat = k.cat
        ∧ t.inv = k.inv ∧ (t.chan c).mode = .idle ∧ t.link r.requester.other = k.link r.requester.other
        ∧ ∃ before last, told = before ++ [last]
          ∧ t.link r.requester = { before.foldl LinkPort.pushNotice (k.link r.requester) with
              data := (before.foldl LinkPort.pushNotice (k.link r.requester)).data.set c none }.pushNotice last
      let failed : Code → List Notice := fun why => [.restoreDone r.id r.set .failed r.delivered r.damaged (some why) (some (r.inDelivery.getD r.nextRec))]
      let skipped : Nat → Code → List Notice := fun n why => [.restoreDamage r.id n r.last why, .restoreDone r.id r.set .complete r.delivered (r.damaged + (r.last + 1 - n)) none none]
      (r.state = .switching → (k.tr c).order = none → (∀ o ∈ k.picker.queue, o.raisedBy ≠ some (.restoreUnit c)) →
        (∀ x, k.restoreExtent r = some x → 0 < x.count → (∃ y, k.cat.cart? x.label = some y ∧ y.loc ≠ none) → (r.inDelivery = none ∨ r.damage = none) →
          let used : Prop := k.usedBySession x.label = true ∨ k.usedByVerify x.label = true ∨ k.usedByRestore x.label (some r.id) = true ∨ k.usedByRecovery x.label = true
          let unloads : Chan → Requester → Raiser → Option Label → Order := fun d p by' l => { Order.blank with
            id := k.picker.freeId, requester := some p, raisedBy := some by', kind := .unload, source := .element (.transport d), dest := .home, wanted := l, state := .ejectWait }
          (k.labelIn c = some x.label → (k.tr c).state = .mounted → exec .restorePlacement s = .next (s.withCtl (toVolume k)))
          ∧ (k.labelIn c ≠ some x.label →
              used ∨ k.findLabel x.label = none ∨ k.findLabel x.label = some .gripper ∨ (∃ d, k.findLabel x.label = some (.transport d) ∧ k.chanIdle d = false) →
              exec .restorePlacement s = .next s)
          ∧ (k.labelIn c ≠ some x.label → ¬used →
              (∀ d, k.findLabel x.label = some (.transport d) → k.labelIn d = some x.label → k.chanIdle d = true → (k.tr d).state = .mounted → (k.tr d).order = none →
                (k.tr d).pendingEject = false → (∀ o ∈ k.picker.queue, o.kind ≠ .unload) → k.picker.queue.length < 8 →
                exec .restorePlacement s = .next (s.withCtl { k with
                  trans := k.trans.set d { k.tr d with state := .ejecting, order := some { kind := .eject, task := .eject } }
                  picker := { k.picker with
                    queue := k.picker.queue ++ [unloads d (.link r.requester) (.restoreUnit c) (some x.label)], nextId := wrapNext 255 k.picker.freeId } }))
              ∧ ∀ e, k.findLabel x.label = some e → (e = .mail ∨ ∃ i, e = .slot i) →
                let loads : Nat → Order := fun id => activityLoad id (.link r.requester) (.restoreUnit c) e c .restore x.label
                (k.session c = none → (k.elem (.transport c)).occ = .empty → k.picker.queue.length < 8 → exec .restorePlacement s = .next (s.withCtl { k with
                    picker := { k.picker with queue := k.picker.queue ++ [loads k.picker.freeId], nextId := wrapNext 255 k.picker.freeId } }))
                ∧ ((k.elem (.transport c)).occ = .full → (k.tr c).state = .mounted → k.picker.queue = [] →
                  (k.session c = none → ∃ t id, exec .restorePlacement s = .next (s.withCtl t) ∧ t.session c = none ∧ t.restore = k.restore
                    ∧ t.picker.queue = [unloads c (.link r.requester) (.restoreUnit c) (k.labelAt (.transport c)), loads id]
                    ∧ t.tr c = { k.tr c with state := .ejecting, order := some { kind := .eject, task := .eject } })
                  ∧ ∀ y, k.session c = some y → y.state = .suspended → y.chosen = k.labelIn c → k.labelIn c ≠ none → ∃ t id,
                    exec .restorePlacement s = .next (s.withCtl t) ∧ t.session c = some { y with unloaded := true } ∧ t.restore = k.restore
                    ∧ t.picker.queue = [unloads c (.link y.owner) (.chan c) (k.labelAt (.transport c)), loads id]
                    ∧ t.tr c = { k.tr c with state := .ejecting, order := some { kind := .eject, task := .eject } })))
        ∧ (∀ z x, k.restoreExtent r = some z → z.count = 0 → k.restoreExtent { r with extent := r.extent + 1 } = some x → 0 < x.count → r.damage = none →
            (∃ y, k.cat.cart? x.label = some y ∧ y.loc ≠ none) → k.labelIn c = some x.label → (k.tr c).state = .mounted →
            exec .restorePlacement s = .next (s.withCtl (toVolume (becomes { r with extent := r.extent + 1 }))))
        ∧ ((∀ d, k.session d = none) → (k.chan c).claim = none →
          let last : Prop := k.restoreExtent { r with extent := r.extent + 1 } = none
          (∀ x, k.restoreExtent r = some x → 0 < x.count → (∀ y, k.cat.cart? x.label = some y → y.loc = none) → r.damage = none →
            (r.skip = false → ends (failed .noCartridge))
            ∧ (r.skip = true → r.inDelivery = none → last → ends (skipped r.nextRec .noCartridge))
            ∧ ∀ n, r.skip = true → r.inDelivery = some n → r.credits = 0 → r.sending = false → exec .restorePlacement s = .next (s.withCtl (becomes { r with
                damage := some (n, .noCartridge), runRec := none, expected := x.firstBlock + x.count, state := .delivering, stall := true
                frames := [{ frame := { chan := c, eor := true, damaged := true, payload := [0] }, ended := none, within := none }] })))
          ∧ (k.restoreExtent r = none → r.damage = none → r.skip = false → ends (failed .readFault))
          ∧ (k.restoreExtent r = none → r.damage = none → r.skip = true → r.inDelivery = none → ends (skipped r.nextRec .readFault))
          ∧ ∀ n why, k.restoreExtent r = none → r.damage = some (n, why) → r.inDelivery = none → ends (skipped n why)))
      ∧ (∀ z x f n, r.state = .delivering → r.damage = none → k.restoreExtent r = some z → r.expected = z.firstBlock + z.count →
          k.restoreExtent { r with extent := r.extent + 1 } = some x → 0 < x.count → (∃ y, k.cat.cart? x.label = some y ∧ y.loc ≠ none) →
          r.frames = [f] → f.frame.chan = c → f.ended = some n → f.within = none → n < r.last → r.sending = true → (k.link r.requester).tx = some (.data f.frame) →
          (k.link r.requester).data.get c = none → k.labelIn c = some x.label → (k.tr c).state = .mounted → (k.tr c).order = none →
          ∃ t, exec (.frameSent r.requester) s = .next (s.withCtl t) ∧ t.restore.running = [{ r with
            frames := [], sending := false, credits := r.credits - 1, delivered := r.delivered + 1, inDelivery := none, nextRec := n + 1, state := .switching
            extent := r.extent + 1 }] ∧ t.trans = (toVolume k).trans)
      ∧ ∀ x y bytes, r.state = .switching → k.restoreExtent r = some x → k.cartIn c = some y → (k.tr c).state = .reading →
          (k.tr c).order = some { kind := .read, task := .rVolRead } → volumeCheck y (checkBlock bytes) = true →
          exec (.blockRead c bytes) s = .next (s.withCtl ((becomes { r with
            state := if r.damage = none then .delivering else .seeking, expected := x.firstBlock }).setTr c { k.tr c with
              state := .moving, pos := (k.tr c).pos + 1, order := some { kind := .locate x.firstPos, task := .rLocate } })))
  ∧ ∀ (k : Ctl) (r : RestoreCtx) (l : Label), k.extentLabel r.set r.extent = some l →
      let appends : Chan → Prop := fun c => ∃ y, k.session c = some y ∧ k.sessionUses y l = true
      let held : Chan → Prop := fun c => k.labelIn c = some l
        ∧ ((k.tr c).state = .mounted ∨ (k.tr c).state = .moving ∨ (k.tr c).state = .reading ∨ (k.tr c).state = .writing)
      let away : Prop := ∃ c, appends c ∧ ¬held c
      let pausable : Chan → Prop := fun c => (k.chan c).mode = .verify ∧ (k.chan c).claim = none ∧ ∃ v, k.verifyOn c = some v ∧ v.pauseAsked = false
      let yields : Chan → Prop := fun c => (k.chan c).mode = .write ∧ (k.chan c).claim = none ∧ ∃ y, k.session c = some y ∧ y.yield = true ∧ y.state = .streaming
      let open' : Chan → Prop := fun c => (k.tr c).state ≠ .faulted ∧ ∀ p, (k.elem (.transport c)).reserved = some p → p = .link r.requester
      let lowest : (Chan → Prop) → Chan → Prop := fun f c => f c ∧ (c = .c1 → ¬f .c0)
      (k.findLabel l = none ∨ k.findLabel l = some .gripper → k.restoreChoice r = .waits)
      ∧ ((∃ e, k.findLabel l = some e) → (∀ c, appends c → ¬held c) → away → k.restoreChoice r = .waits)
      ∧ (∀ c, k.findLabel l = some (.transport c) → ¬away →
          (k.chanIdle c = true → (k.tr c).state = .mounted ∨ (k.tr c).state = .ejected → k.restoreChoice r = .idle c)
          ∧ (pausable c → k.restoreChoice r = .verifying c)
          ∧ (yields c → appends c → ¬appends c.other → k.restoreChoice r = .yielding c)
          ∧ (¬(k.chanIdle c = true ∧ ((k.tr c).state = .mounted ∨ (k.tr c).state = .ejected)) → ¬pausable c → ¬(yields c ∧ appends c) → k.restoreChoice r = .waits))
      ∧ ((k.findLabel l = some .mail ∨ ∃ i, k.findLabel l = some (.slot i)) → ¬away →
          let idle : Chan → Prop := fun c => open' c ∧ k.chanIdle c = true
          let stops : Chan → Prop := fun c => open' c ∧ pausable c
          let lends : Chan → Prop := fun c => open' c ∧ yields c
          (∀ c, lowest idle c → k.restoreChoice r = .idle c)
          ∧ (∀ c, (∀ d, ¬idle d) → lowest stops c → k.restoreChoice r = .verifying c)
          ∧ (∀ c, (∀ d, ¬idle d ∧ ¬stops d) → lowest lends c → k.restoreChoice r = .yielding c)
          ∧ ((∀ d, ¬idle d ∧ ¬stops d ∧ ¬lends d) → k.restoreChoice r = .waits))

/-- R81, R97, R161, R162: a block of a DELIVERING restore that the expander started on with a dictionary slot, and that has expanded with no fault and a matching native
check, is delivered from where the record stands: its bytes stand in bank 0, the coded buffer is free, its frames wait for credit, and the next block is expected. The
frames of a block from a start offset, where its record ends are rising and lie within it, hold 1 to 4,096 bytes each, and together exactly the bytes from that offset to
the end of the last record wanted, or to the block's end where that lies further on; each end of a record wanted is the end of one frame, which carries end-of-record, and
no other frame does. R163: a block of a DELIVERING restore that cannot be read, is not the restore's, has not the expected number or record, or does not expand to its
native check, is damage at the record in delivery or the next one. Under STOP the restore ends FAILED with READ_FAULT or CODING_FAULT. Under SKIP a record in delivery is
ended by one damaged frame of one byte 0, which needs a credit; then, or with no record in delivery at once, the restore seeks: a readable block above the last one judged
goes to the expander, any other is passed over, and the first in which a record above the damaged one starts ends the seek: RESTORE_DAMAGE tells the range, and delivery
goes on from that record, or the restore is COMPLETE where it lies past the last. By the model's choice a DATA_IN frame not begun is withdrawn at the restore's end
(assumption 89). -/
def Obligations.ExpandedBlockDelivered : Prop :=
  (∀ (s : State) (c : Chan) (r : RestoreCtx) (b : TapeBlock) (d : Option DictSlot) (out : List Byte), (s.ctl.chan c).expander = .expanding b d →
    (s.ctl.chan c).mode = .restore → (s.ctl.chan c).buf = .raw b → ((s.ctl.chan c).bank .b0).state = .empty → Answered s.ctl →
    s.ctl.restoreOn c = some r → s.ctl.restore? r.id = some r → s.ctl.session c = none → r.state = .delivering → expandWith d b = { out := out, fault := none } →
    crc out = b.nativeCrc → r.credits = 0 → r.sending = false →
    let k := s.ctl
    let fs := if r.runRec = none then cutBlock c out r.last b.recordEnds r.startOff r.nextRec else cutBlock c out r.last b.recordEnds 0 b.hdr.record
    fs ≠ [] → ∃ t, exec (.expanderReport c) s = .next (s.withCtl t)
      ∧ t = { k with restore := t.restore, chans := k.chans.set c { (k.chan c) with
          bank0 := { state := .empty, bytes := out, ends := [], stamp := none }, buf := .free, expander := .idle } }
      ∧ t.restore? r.id = some { r with frames := fs, startOff := 0, expected := b.hdr.block + 1, runRec := some (b.hdr.record + b.hdr.ends)
                                        judged := some b.hdr.block, stall := true })
  ∧ (∀ (s : State) (c : Chan), (s.ctl.chan c).expander = .idle → Answered s.ctl → exec (.expanderReport c) s = .next s)
  ∧ (∀ (c : Chan) (n : Nat) (ends : Bool) (bs : List Byte),
      (runFrames c n ends bs).flatMap (·.frame.payload) = bs
      ∧ (∀ f ∈ runFrames c n ends bs, 1 ≤ f.frame.payload.length ∧ f.frame.payload.length ≤ 4096 ∧ f.frame.chan = c ∧ f.frame.damaged = false)
      ∧ (∀ f ∈ (runFrames c n ends bs).dropLast, f.frame.eor = false ∧ f.frame.payload.length = 4096)
      ∧ ∀ f, (runFrames c n ends bs).getLast? = some f → f.frame.eor = ends)
  ∧ (∀ (s : State) (c : Chan) (r : RestoreCtx) (x : Extent) (y : Cart), s.ctl.restoreOn c = some r → s.ctl.restore? r.id = some r → r.chan = some c →
      (∀ d, s.ctl.session d = none) → (∀ d, (s.ctl.chan d).drain = none) → Answered s.ctl → s.ctl.restoreExtent r = some x → s.ctl.cartIn c = some y →
      (s.ctl.tr c).pendingEject = false → (s.ctl.chan c).claim = none → s.ctl.picker.running = none → s.ctl.picker.held = [] →
      let k := s.ctl
      let usable : TapeBlock → Prop := fun b => b.hdr.kind = 2 ∧ b.hdr.set = r.set ∧ b.hdr.label = y.label ∧ b.hdr.generation = y.generation
        ∧ b.hdr.passTag = y.generation % 4
      let wanted : TapeBlock → Prop := fun b => usable b ∧ b.hdr.block = r.expected ∧ ∀ n, r.runRec = some n → n = b.hdr.record
      let others : RestoreUnit := { k.restore with running := k.restore.running.filter fun z => z.id ≠ r.id }
      let becomes : RestoreCtx → Ctl := fun u => { k with restore := { k.restore with running := k.restore.running.map fun z => if z.id = r.id then u else z } }
      let stands : Ctl → Ctl := fun t => t.setTr c { k.tr c with state := .mounted, pos := (k.tr c).pos + 1, order := none }
      let readsOn : Ctl → Ctl := fun t => t.setTr c { k.tr c with state := .reading, pos := (k.tr c).pos + 1, order := some { kind := .read, task := .rRead } }
      let fails : Instr → Code → Prop := fun i why => ∃ t, exec i s = .next (s.withCtl t) ∧ t.restore = others ∧ t.cat = k.cat ∧ t.inv = k.inv ∧ (t.chan c).mode = .idle
        ∧ t.link r.requester = { k.link r.requester with data := (k.link r.requester).data.set c none }.pushNotice
            (.restoreDone r.id r.set .failed r.delivered r.damaged (some why) (some (r.inDelivery.getD r.nextRec)))
      let damaged : RestoreCtx := { r with runRec := none, judged := some r.expected }
      let endFrame : OutData := { frame := { chan := c, eor := true, damaged := true, payload := [0] }, ended := none, within := none }
      ((k.tr c).state = .reading → (k.tr c).order = some { kind := .read, task := .rRead } → r.state = .delivering → r.damage = none →
        ∀ i, i = .blockUnreadable c ∨ (∃ bytes, i = .blockRead c bytes ∧ ¬∃ b, checkBlock bytes = .good b ∧ wanted b) →
          (r.skip = false → fails i .readFault)
          ∧ (r.skip = true → r.inDelivery = none → r.expected < x.firstBlock + x.count → (k.tr c).pos + 1 < x.firstPos + x.count →
              exec i s = .next (s.withCtl (readsOn (becomes { damaged with damage := some (r.nextRec, .readFault), state := .seeking, frames := [] }))))
          ∧ (∀ n, r.skip = true → r.inDelivery = some n → r.sending = false →
              let ended : RestoreCtx := { damaged with damage := some (n, .readFault), frames := [endFrame] }
              (r.credits = 0 → exec i s = .next (s.withCtl (stands (becomes { ended with stall := true }))))
              ∧ (0 < r.credits → exec i s = .next (s.withCtl ((stands (becomes { ended with sending := true, stall := false })).setLink r.requester
                  ((k.link r.requester).offerData endFrame.frame)))))
      ∧ (∀ b d, (k.chan c).expander = .expanding b d → (k.chan c).mode = .restore → r.state = .delivering → r.damage = none → r.skip = false → (k.tr c).order = none →
          (expandWith d b).fault ≠ none ∨ crc (expandWith d b).out ≠ b.nativeCrc → fails (.expanderReport c) .codingFault)
      ∧ ∀ n why, r.damage = some (n, why) →
        (∀ f, r.frames = [f] → f.frame.chan = c → f.ended = none → f.within = none → r.sending = true → (k.link r.requester).tx = some (.data f.frame) →
          (k.link r.requester).data.get c = none → (k.tr c).state = .mounted → (k.tr c).order = none → r.expected < x.firstBlock + x.count →
          (k.tr c).pos < x.firstPos + x.count → ∃ t, exec (.frameSent r.requester) s = .next (s.withCtl t)
            ∧ t.restore? r.id = some { r with frames := [], sending := false, credits := r.credits - 1, inDelivery := none, state := .seeking }
            ∧ t.tr c = { k.tr c with state := .reading, order := some { kind := .read, task := .rRead } })
        ∧ (r.state = .seeking → (k.tr c).state = .reading → (k.tr c).order = some { kind := .read, task := .rRead } →
            (∀ bytes b, checkBlock bytes = .good b → usable b → (∀ j, r.judged = some j → j < b.hdr.block) →
              exec (.blockRead c bytes) s = .next (s.withCtl (stands { k with
                chans := k.chans.set c { k.chan c with expander := .expanding b (k.dicts.slot? b.hdr.dict), buf := .raw b } })))
            ∧ ∀ i, i = .blockUnreadable c ∨ (∃ bytes, i = .blockRead c bytes ∧ ¬∃ b, checkBlock bytes = .good b ∧ usable b ∧ ∀ j, r.judged = some j → j < b.hdr.block) →
                r.expected < x.firstBlock + x.count → (k.tr c).pos + 1 < x.firstPos + x.count → exec i s = .next (s.withCtl (readsOn k)))
        ∧ ∀ b d out, r.state = .seeking → (k.chan c).expander = .expanding b d → (k.chan c).mode = .restore → (k.tr c).state = .mounted → (k.tr c).order = none →
            expandWith d b = { out := out, fault := none } → crc out = b.nativeCrc →
            let starts : Nat → Nat → Prop := fun m o => m = b.hdr.record ∧ b.hdr.cont = false ∧ o = 0
              ∨ ∃ i, b.ends[i]? = some o ∧ o < b.hdr.native ∧ m = b.hdr.record + i + 1
            let judged : RestoreCtx := { r with judged := some b.hdr.block, runRec := some (b.hdr.record + b.hdr.ends) }
            ((∀ m o, starts m o → m ≤ n) → r.expected < x.firstBlock + x.count → (k.tr c).pos < x.firstPos + x.count → ∃ t,
              exec (.expanderReport c) s = .next (s.withCtl t) ∧ t.restore? r.id = some judged ∧ t.links = k.links
              ∧ t.tr c = { k.tr c with state := .reading, order := some { kind := .read, task := .rRead } })
            ∧ ∀ m o, starts m o → n < m → (∀ m' o', starts m' o' → n < m' → m ≤ m') →
                let until' := min (m - 1) r.last
                let told := (k.link r.requester).pushNotice (.restoreDamage r.id n until' why)
                let total := r.damaged + (until' + 1 - n)
                (m ≤ r.last → r.credits = 0 → r.sending = false → cutBlock c out r.last b.recordEnds o m ≠ [] → ∃ t, exec (.expanderReport c) s = .next (s.withCtl t)
                  ∧ t.restore? r.id = some { judged with
                      damage := none, damaged := total, nextRec := m, inDelivery := none, state := .delivering, frames := cutBlock c out r.last b.recordEnds o m, startOff := 0
                      expected := b.hdr.block + 1, stall := true }
                  ∧ t.link r.requester = told ∧ t.link r.requester.other = k.link r.requester.other)
                ∧ (r.last < m → ∃ t, exec (.expanderReport c) s = .next (s.withCtl t) ∧ t.restore = others ∧ (t.chan c).mode = .idle
                  ∧ t.link r.requester = { told with data := told.data.set c none }.pushNotice (.restoreDone r.id r.set .complete r.delivered total none none))))
  ∧ ∀ (c : Chan) (out : List Byte) (last rec off : Nat) (es : List Nat), es.Pairwise (· < ·) → (∀ e ∈ es, off < e ∧ e ≤ out.length) → off < out.length → rec ≤ last →
      let fs := cutBlock c out last (es.zipIdx.map fun p => (rec + p.2, p.1)) off rec
      let stop : Nat := (es[last - rec]?).getD out.length
      fs.flatMap (·.frame.payload) = (out.take stop).drop off
      ∧ (∀ f ∈ fs, 1 ≤ f.frame.payload.length ∧ f.frame.payload.length ≤ 4096 ∧ f.frame.chan = c ∧ f.frame.damaged = false)
      ∧ (∀ before f rest, fs = before ++ f :: rest →
          (f.frame.eor = true ↔ off + ((before ++ [f]).flatMap (·.frame.payload)).length ∈ es) ∧ (f.frame.eor = true ↔ f.ended ≠ none))
      ∧ fs.filterMap (·.ended) = (List.range (min es.length (last + 1 - rec))).map (rec + ·)

/-! ## The store (chapter 10) -/

/-- R168, R169: a CHECKPOINT is ACCEPTED: it starts with the snapshot of what the image holds and the erase ordered, from which moment the flash holds no good image; in
SAVING it is pending for the requester. Erase, pages and commit mark follow one another. The commit mark makes the store CLEAN, or DIRTY where it changed meanwhile; a
page that differs, an error and the 2 s timer make it FAILED. SET_AUTO_CHECKPOINT replaces the flag. The model's choices: the image is one record, with a page's match as an
operand of its report (assumption 6), and a report that does not answer the flash operation outstanding is discarded (assumption 42, DEDUCED). -/
def Obligations.CheckpointRuns : Prop :=
  ∀ s : State, Answered s.ctl →
    let k := s.ctl
    let st := k.store
    let fails := ((({ k with store := { st with state := .failed, changed := false, snapshot := none, op := .none, served := [] } }.notifyAll .checkpointFailed).notifyEach
      st.served (.checkpointDone false)))
    (∀ p q, AtHead s p q .checkpoint →
      (st.state ≠ .saving → st.op ≠ .read → st.reload ≠ .again → exec (.checkpoint p) s = .next (s.withCtl { k.afterAnswer p q .accepted with store :=
        { st with state := .saving, changed := false, op := .erase, served := [p], flash := none
                  snapshot := some { protect := k.inv.protect, watches := k.climate.watches, interval := k.climate.interval, acclimation := k.climate.acclimation
                                     policies := k.verify.policies, auto := st.auto, dicts := k.dicts, catalog := k.cat } } }))
      ∧ (st.state = .saving → exec (.checkpoint p) s = .next (s.withCtl { k.afterAnswer p q .accepted with store :=
        { st with pending := true, nextServed := if p ∈ st.nextServed then st.nextServed else st.nextServed ++ [p] } })))
    ∧ (∀ l q n, AtHead s (.link l) q (.setAutoCheckpoint n) →
        (1 < n → exec (.setAutoCheckpoint (.link l) n) s = .next (s.withCtl (k.afterAnswer (.link l) q .badArgument)))
        ∧ (n ≤ 1 → exec (.setAutoCheckpoint (.link l) n) s = .next (s.withCtl
            { k.afterAnswer (.link l) q .ok with store := { st with auto := decide (n = 0) }.noteChange })))
    ∧ (st.op = .erase → exec .flashEraseDone s = .next (s.withCtl { k with store := { st with op := .program } }))
    ∧ (st.op = .program → exec (.flashProgramDone true false) s = .next s
        ∧ exec (.flashProgramDone true true) s = .next (s.withCtl { k with store := { st with op := .commit } }))
    ∧ (st.op = .commit → st.pending = false → st.reload ≠ .waiting → exec .commitMarkDone s = .next (s.withCtl
        ({ k with store := { st with state := if st.changed then .dirty else .clean, changed := false, snapshot := none, op := .none, served := []
                                     flash := st.snapshot } }.notifyEach st.served (.checkpointDone true))))
    ∧ (st.pending = false → st.reload ≠ .waiting → (st.op = .program → ∀ last, exec (.flashProgramDone false last) s = .next (s.withCtl fails))
        ∧ (st.op = .erase ∨ st.op = .program ∨ st.op = .commit → exec .flashErrorReport s = .next (s.withCtl fails) ∧ exec .flashTimerExpiry s = .next (s.withCtl fails)))
    ∧ (st.op ≠ .erase → exec .flashEraseDone s = .next s) ∧ (st.op ≠ .commit → exec .commitMarkDone s = .next s)
    ∧ (st.op ≠ .program → ∀ a b, exec (.flashProgramDone a b) s = .next s)
    ∧ (st.op = .none → exec .flashErrorReport s = .next s ∧ exec .flashTimerExpiry s = .next s)

/-- R182, R171: LIBRARY_RESET and RELOAD from the panel are KEY_LOCKED with the key in LOCK and BUSY while a RELOAD goes on. Otherwise every request queue is empty, the
panel keeps only this response unread, RESET_DONE stands first in the notice queues, and no element is reserved; ASKING and UNLOCKED doors and a mail slot whose switch
has not opened are LOCKED; the watches' results are not valid; nothing is left running or waiting in the Restore and Verify Units; a session that is left is ABORTING, and
waits for the answer to its block; a FAULTED transport is being reset, and a FAULTED picker HOMING; of the Move Queue the RUNNING order, the audits, SCAN_ALL and the
good one replaces the settings, the dictionaries and the catalog, settled by R79, and no session survives it; one that is not good replaces nothing. Either way every
element is UNCERTAIN with its last known entry, SCAN_ALL is raised, and RELOAD_DONE goes to the panel. R101: no restore, verify or recovery survives the load of a good
image, since no block is coded or expanded across it. The model's choices: whether the image is good is an operand of its report (assumption 6); what has been begun while
the RELOAD waited or read is ended before the load, as step 1 ends it (assumption 63, DEDUCED); a session that has a block to end with then has nothing loaded yet, and
the image is read again (assumption 37, DEDUCED); a forced opening of the mail slot outlives the reset of what had opened it (assumption 65, DEDUCED). -/
def Obligations.ResetsOfTheLibrary : Prop :=
  (∀ (s : State) (q : QueuedReq) (i : Instr) (r : Req) (cause : ResetCause), Answered s.ctl →
      i = .libraryReset .panel ∧ r = .libraryReset ∧ cause = .libraryReset ∨ i = .reload .panel ∧ r = .reload ∧ cause = .reload → AtHead s .panel q r →
      let k := s.ctl
      (k.inv.key = .lock → exec i s = .next (s.withCtl (k.afterAnswer .panel q .keyLocked)))
      ∧ (k.inv.key = .opened → k.store.reload ≠ .none → exec i s = .next (s.withCtl (k.afterAnswer .panel q .busy)))
      ∧ (k.inv.key = .opened → k.store.reload = .none → ∃ t, exec i s = .next (s.withCtl t)
          ∧ (∀ p, t.requests p = []) ∧ t.panel.responses = [{ tag := q.tag, code := .accepted, result := .none }] ∧ t.panel.refusal = none
          ∧ (∀ l, (t.link l).online = (k.link l).online ∧ (t.link l).offlineTimer = (k.link l).offlineTimer)
          ∧ (∀ e, (t.elem e).reserved = none ∧ (t.elem e).occ = (k.elem e).occ ∧ (t.elem e).entry = (k.elem e).entry)
          ∧ t.inv.key = k.inv.key ∧ t.inv.protect = k.inv.protect ∧ t.dicts = k.dicts ∧ t.verify.policies = k.verify.policies
          ∧ t.climate.watches = k.climate.watches ∧ t.climate.interval = k.climate.interval
          ∧ t.verify.queue = [] ∧ t.restore.queue = [] ∧ t.restore.running = [] ∧ t.restore.nextId = k.restore.nextId
          ∧ (∀ m, t.door m = if (k.door m).state = .asking ∨ (k.door m).state = .unlocked then .initial else k.door m)
          ∧ t.inv.mail = (if k.inv.mail.state ≠ .locked ∧ k.inv.mail.switchOpen = false then { MailSlot.initial with forced := k.inv.mail.forced } else k.inv.mail)
          ∧ t.climate.results = ⟨{ valid := false, crossed := false }, { valid := false, crossed := false }⟩ ∧ t.climate.reading = none
          ∧ (∀ c, (k.chan c).claim ≠ some .session → ∀ y, t.session c = some y → y.state = .aborting ∧ ∃ x, k.session c = some x ∧ x.setId = y.setId)
          ∧ (∀ c, (t.tr c).resetting = ((k.tr c).resetting || decide ((k.tr c).state = .faulted)))
          ∧ (∀ l, (k.link l).online = false → (t.link l).notices.head? = some (.resetDone cause)) ∧ t.panel.notices.head? = some (.resetDone cause)
          ∧ (k.picker.state = .faulted → t.picker.state = .homing ∧ t.picker.cmd = some .home) ∧ (k.picker.state ≠ .faulted → t.motion = k.motion)
          ∧ (k.picker.held = [] → (∀ c, k.session c = none) → k.restore.running = [] → k.verify.queue = [] → k.store.recovery = none →
              t.picker.queue = k.picker.queue.filter fun o =>
                decide (o.state = .running) || decide (o.kind = .audit) || decide (o.kind = .scanAll) || (match o.role with
                  | .importMove _ => true
                  | _ => false))
          ∧ (r = .reload →
              ((∃ c y, t.session c = some y ∧ y.state = .aborting) → t.store.reload = .ending)
              ∧ ((∀ c y, t.session c = some y → y.state ≠ .aborting) → t.store.pending = false
                  ∧ (t.store.state = .saving ∧ t.store.reload = .waiting ∨ t.store.op = .read ∧ t.store.reload = .reading)))))
  ∧ (∀ (s : State) (intact : Bool), Answered s.ctl →
      let k := s.ctl
      let nothingRuns : Prop := (∀ c, k.session c = none) ∧ k.restore.queue = [] ∧ k.restore.running = [] ∧ k.verify.queue = [] ∧ k.store.recovery = none
      let untouched : Prop := intact = false ∨ k.store.flash = none ∨ nothingRuns
      (k.store.op ≠ .read → exec (.imageReadDone intact) s = .next s)
      ∧ (k.store.op = .read → k.store.pending = false → ∃ t, exec (.imageReadDone intact) s = .next (s.withCtl t)
          ∧ (t.store.reload = .none → (∀ e, t.elem e = { k.elem e with occ := .uncertain }) ∧ t.inv.doors = k.inv.doors ∧ t.inv.mail = k.inv.mail ∧ t.inv.key = k.inv.key)
          ∧ (untouched → t.store.reload = .none ∧ t.store.op = .none)
          ∧ (untouched → t.chans = k.chans ∧ t.trans = k.trans ∧ t.restore = k.restore
              ∧ (k.picker.queue.length < 8 → t.picker.queue = k.picker.queue ++ [{ Order.powerUpScan with id := k.picker.freeId, role := .reloadScan }])
              ∧ (k.climate.failSafe = false → t.climate.hold = k.climate.hold →
                  t.panel = (k.notify .panel (.reloadDone (intact && k.store.flash.isSome))).panel ∧ t.links = k.links))
          ∧ (∀ i, intact = true → k.store.flash = some i →
              (t.store.reload = .none → (∀ c, t.session c = none) ∧ t.verify.queue = [] ∧ t.restore.queue = [] ∧ t.restore.running = [] ∧ t.store.recovery = none
                ∧ t.inv.protect = i.protect ∧ t.climate.watches = i.watches ∧ t.climate.interval = i.interval
                ∧ t.climate.acclimation = i.acclimation ∧ t.verify.policies = i.policies ∧ t.verify.skips = ⟨0, 0⟩ ∧ t.dicts = i.dicts ∧ t.cat = i.catalog.settle
                ∧ t.store.auto = i.auto)
              ∧ (nothingRuns → t.store.state = (if i.catalog.settle = i.catalog then .clean else .dirty))
              ∧ ((∃ c y, t.session c = some y ∧ y.state = .aborting) → t.store.reload = .again ∧ t.store.op = .none ∧ t.standing = k.standing
                ∧ ∀ e, (t.elem e).occ = (k.elem e).occ))
          ∧ (intact = false ∨ k.store.flash = none →
              t.inv.protect = k.inv.protect ∧ t.climate.watches = k.climate.watches ∧ t.verify = { k.verify with skips := ⟨0, 0⟩ } ∧ t.dicts = k.dicts ∧ t.cat = k.cat
                ∧ t.chans = k.chans ∧ t.store = { k.store with op := .none, reload := .none })))

/-- R172: the first condition that holds answers RECOVER_CARTRIDGE. An accepted one claims its channel and reads the volume block of a cartridge that stands MOUNTED at
position 0 in the transport of an IDLE channel. A good volume block of the cartridge starts the scan with its generation; another's label ends the recovery with MISMATCH,
any other block with READ_FAULT, and a tape never written with outcome OK and the record BLANK. R173: in the scan a data block's header is noted, with its cost; a summary
block closes a set, with the notes since the last, or leaves it out where 32 are held, with RECOVER_CONFLICT; a block that cannot be used costs 65 frames. At the end of
the data, or at a block that is not the cartridge's, the results are applied together: for a scan of no set or of one, what the cartridge's record becomes, and whether
the set is inserted, replaces the TRUNCATED set whose extents are its first ones, or is left out with RECOVER_CONFLICT. Every such end unloads the cartridge, releases the
claim and sends RECOVER_DONE. The model's choices: that a cartridge which only stands in a transport is not taken as in use (assumption 32, DEDUCED), that the volume
block's label and generation are its payload's (assumption 38, DEDUCED), and that a tape never written is unloaded too (assumption 75, DEDUCED). -/
def Obligations.RecoverAnswers : Prop :=
  (∀ (s : State) (p : Requester) (q : QueuedReq) (l : Label), AtHead s p q (.recoverCartridge l) → Answered s.ctl →
      let k := s.ctl
      let answers : Code → Prop := fun code => exec (.recoverCartridge p l) s = .next (s.withCtl (k.afterAnswer p q code))
      (k.cat.cart? l = none → answers .notFound)
      ∧ ∀ y, k.cat.cart? l = some y →
        (y.state ≠ .unknown → answers .wrongState)
        ∧ (y.state = .unknown → k.store.recovery ≠ none → answers .busy)
        ∧ (y.state = .unknown → k.store.recovery = none →
          (y.loc = none → answers .noCartridge)
          ∧ (y.loc ≠ none → k.findLabel l = none ∨ k.findLabel l = some .gripper → answers .wrongState)
          ∧ ∀ e, y.loc ≠ none → k.findLabel l = some e → e ≠ .gripper →
            (k.usedByActivity l = true → answers .inUse)
            ∧ (k.usedByActivity l = false → k.reservedByOther (some p) e = true → answers .reserved)
            ∧ (k.usedByActivity l = false → k.reservedByOther (some p) e = false → k.doorBusy e = true → answers .doorBusy)
            ∧ (k.usedByActivity l = false → k.reservedByOther (some p) e = false → k.doorBusy e = false →
                (∀ c, k.chanIdle c = false ∨ (k.tr c).state = .faulted) → answers .channelBusy)
            ∧ ∀ c, e = .transport c → k.usedByActivity l = false → k.reservedByOther (some p) e = false → k.labelIn c = some l → k.transportOf l = some c → k.chanIdle c = true →
                (k.tr c).state = .mounted → (k.tr c).order = none → (k.tr c).pos = 0 → ∃ r : Recovery, r.label = l ∧ r.requester = p ∧ r.chan = c ∧
                  exec (.recoverCartridge p l) s = .next (s.withCtl { k.afterAnswer p q .accepted with
                    chans := k.chans.set c { k.chan c with claim := some .recovery }
                    trans := k.trans.set c { k.tr c with state := .reading, order := some { kind := .read, task := .cVolRead } }
                    store := { k.store with recovery := some r } })))
  ∧ ∀ (s : State) (c : Chan) (r : Recovery), Answered s.ctl → (∀ d, (s.ctl.chan d).drain = none) → s.ctl.store.recovery = some r → r.chan = c →
      (s.ctl.chan c).claim = some .recovery → (∀ d, s.ctl.session d = none) → s.ctl.restore.running = [] → s.ctl.verify.queue = [] → (s.ctl.tr c).state = .reading →
      (s.ctl.tr c).pendingEject = false → s.ctl.picker.running = none → s.ctl.picker.held = [] →
      let k := s.ctl
      let goesOn : Recovery → Ctl := fun u => { k with
        store := { k.store with recovery := some u }, trans := k.trans.set c { k.tr c with pos := (k.tr c).pos + 1, order := some { kind := .read, task := .cRead } } }
      let ends : Instr → Nat → List Notice → Catalog → Prop := fun i pos told cat => ∃ t, exec i s = .next (s.withCtl t) ∧ t.cat = cat ∧ t.inv = k.inv
        ∧ t.store = { (if cat = k.cat then k.store else k.store.noteChange) with recovery := none } ∧ (t.chan c).claim = none ∧ (t.chan c).mode = .idle
        ∧ t.links = (told.foldl (fun u n => u.notify r.requester n) k).links ∧ t.panel = (told.foldl (fun u n => u.notify r.requester n) k).panel
        ∧ (k.labelIn c = some r.label → k.picker.queue = [] → t.tr c = { k.tr c with state := .ejecting, pos := pos, order := some { kind := .eject, task := .eject } }
            ∧ ∃ o, t.picker.queue = [o] ∧ o.kind = .unload ∧ o.requester = some r.requester ∧ o.source = .element (.transport c) ∧ o.dest = .home
              ∧ o.wanted = some r.label ∧ o.state = .ejectWait)
      let fails : Instr → Code → Prop := fun i why => ends i ((k.tr c).pos + 1) [.recoverDone r.label .failed 0 0 (some why)] k.cat
      ((k.tr c).order = some { kind := .read, task := .cVolRead } →
        (∀ bytes b, checkBlock bytes = .good b → b.hdr.kind = 1 → b.payload.take 8 = padLabel r.label →
          exec (.blockRead c bytes) s = .next (s.withCtl (goesOn { r with gen := numAt b.payload 9 2, pos := 1 })))
        ∧ (∀ bytes b, checkBlock bytes = .good b → b.hdr.kind = 1 → b.payload.take 8 ≠ padLabel r.label → fails (.blockRead c bytes) .mismatch)
        ∧ (∀ bytes, (∃ b, checkBlock bytes = .good b ∧ b.hdr.kind ≠ 1 ∨ checkBlock bytes = .crcBad b) ∨ checkBlock bytes = .malformed → fails (.blockRead c bytes) .readFault)
        ∧ fails (.blockUnreadable c) .readFault
        ∧ ∀ n, ends (.endOfData c n) (k.tr c).pos [.recoverDone r.label .ok 0 0 none] (k.cat.modCart r.label fun z => { z with state := .blank }))
      ∧ ((k.tr c).order = some { kind := .read, task := .cRead } →
        let ours : TapeBlock → Prop := fun b => b.hdr.label = padLabel r.label ∧ b.hdr.generation = r.gen ∧ b.hdr.passTag = r.gen % 4
        let u : Recovery := { r with pos := (k.tr c).pos + 1 }
        (∀ bytes b, checkBlock bytes = .good b → ours b →
          (b.hdr.kind = 2 → exec (.blockRead c bytes) s = .next (s.withCtl (goesOn { u with
            frames := r.frames + blockCost b.hdr.coded b.hdr.ends, native := r.native + b.hdr.native, coded := r.coded + b.hdr.coded
            notes := r.notes ++ [{ set := b.hdr.set, block := b.hdr.block, record := b.hdr.record, cont := b.hdr.cont }] })))
          ∧ (b.hdr.kind = 3 →
            let x := r.notes.foldl SetRec.noteIndex (readSummary b)
            let w : Recovery := { u with frames := r.frames + 1, keptFrames := r.frames + 1, keptNative := r.native, keptCoded := r.coded, eod := (k.tr c).pos + 1, notes := [] }
            (r.sets.length < 32 → exec (.blockRead c bytes) s = .next (s.withCtl (goesOn { w with sets := r.sets ++ [x] })))
            ∧ (32 ≤ r.sets.length → exec (.blockRead c bytes) s = .next (s.withCtl
                ((goesOn { w with leftOut := r.leftOut ++ [x.id] }).notify r.requester (.recoverConflict r.label x.id))))))
        ∧ (∀ bytes, checkBlock bytes = .malformed ∨ (∃ b, checkBlock bytes = .crcBad b) →
            exec (.blockRead c bytes) s = .next (s.withCtl (goesOn { u with frames := r.frames + 65 })))
        ∧ exec (.blockUnreadable c) s = .next (s.withCtl (goesOn { u with frames := r.frames + 65 }))
        ∧ ∀ i pos, (∃ n, i = .endOfData c n ∧ pos = (k.tr c).pos) ∨ (∃ bytes b, i = .blockRead c bytes ∧ checkBlock bytes = .good b ∧ ¬ours b ∧ pos = (k.tr c).pos + 1) →
            classOf r.label ≠ .unsupported →
            let frames := min (1 + r.keptFrames) (classOf r.label).capacity
            let early : Bool := decide ((classOf r.label).warning < frames)
            let applied : List SetRec → Nat → List Nat → List Nat → Prop := fun sets next ins outs =>
              ends i pos (outs.map (Notice.recoverConflict r.label) ++ [.recoverDone r.label .ok ins.length (outs.length + r.leftOut.length) none])
                ({ k.cat with sets := sets, nextSetId := next }.modCart r.label fun z => { z with
                  generation := r.gen, eod := r.eod, frames := frames, native := r.keptNative, coded := r.keptCoded, early := early, sets := ins
                  state := if early = true ∨ 32 ≤ ins.length ∨ outs ≠ [] ∨ r.leftOut ≠ [] then .full else .opened })
            (r.sets = [] → applied k.cat.sets k.cat.nextSetId [] [])
            ∧ ∀ x, r.sets = [x] →
              let next := if k.cat.nextSetId ≤ x.id then wrapNext 65535 x.id else k.cat.nextSetId
              (k.cat.set? x.id = none → k.cat.sets.length < 256 → applied (insertSet x k.cat.sets) next [x.id] [])
              ∧ (k.cat.set? x.id = none → 256 ≤ k.cat.sets.length → applied k.cat.sets k.cat.nextSetId [] [x.id])
              ∧ ∀ old, k.cat.set? x.id = some old →
                (old.state = .truncated → old.extents <+: x.extents → applied (k.cat.sets.map fun z => if z.id = x.id then x else z) next [x.id] [])
                ∧ (old.state ≠ .truncated ∨ ¬old.extents <+: x.extents → applied k.cat.sets k.cat.nextSetId [] [x.id]))

/-! ## Resets and the ports' line (chapters 1, 10 and 11) -/

/-- R14, R44, R116, R151, R166, R172, R179: LINK_RESET names its own link. It and the offline timer empty the link's request queue and take back its reservations, and
touch no other link's requests and no other reservation; the link's restores leave the restore queue and none of them goes on, and so its recovery and the verify entries
of its sets; a session of it that is left is ABORTING. Where nothing of the link is going on, RESET_DONE in its notice queue is all that comes. Where one thing of it is
going on, that ends as its block states: of the Move Queue the link's orders that are not RUNNING leave with no notice, but for import and export moves, and its held
offers are struck; its door request goes back to LOCKED, with DOOR(LOCKED, RESET) to the links that were asked, while for another's request its mark is withdrawn and it
is asked again, once back where it is OFFLINE; its session is aborted with reason RESET, after the block in hand where there is one; its restore in DELIVERING ends
CANCELLED with RESET, the frame it has not begun to send withdrawn, and its channel is IDLE; a verify entry of its set leaves in silence where it has never started, and
else ends INCOMPLETE with RESET; its recovery ends CANCELLED with RESET. The model's choices in this: which of CREDIT frames and blocks in hand go with an abort
(assumptions 14, 21, 26), and the withdrawn DATA_IN frame (assumption 89). -/
def Obligations.LinkResets : Prop :=
  ∀ (s : State) (l : Link), Answered s.ctl →
    let reset : Ctl → Ctl → Prop := fun k t =>
      (t.link l).requests = [] ∧ (t.link l.other).requests = (k.link l.other).requests ∧ t.panel.requests = k.panel.requests
        ∧ (∀ e, (t.elem e) = { k.elem e with reserved := if (k.elem e).reserved = some (.link l) then none else (k.elem e).reserved })
        ∧ t.inv.mail = k.inv.mail ∧ t.inv.key = k.inv.key ∧ t.inv.protect = k.inv.protect
        ∧ t.restore.queue = (k.restore.queue.filter fun r => r.requester ≠ l) ∧ (∀ r ∈ t.restore.running, r.requester ≠ l)
        ∧ t.store.recovery = (k.store.recovery.filter fun r => r.requester ≠ .link l)
        ∧ (∀ v ∈ t.verify.queue, ∀ r, t.cat.set? v.set = some r → r.owner ≠ l)
        ∧ ((∀ c, (k.chan c).claim ≠ some .session) → ∀ c x, t.session c = some x → x.owner = l → x.state = .aborting)
    let noDoor : Ctl → Prop := fun k => ∀ m, (k.door m).state ≠ .asking
    let mine : Order → Bool := fun o => decide (o.requester = some (.link l)) && !o.ofMail
    let noOrder : Ctl → Prop := fun k => (∀ o ∈ k.picker.queue, mine o = true → o.state = .running) ∧ k.picker.held = []
    let noRestore : Ctl → Prop := fun k => k.restore.queue = [] ∧ k.restore.running = []
    let quiet : Ctl → Prop := fun k => noDoor k ∧ (∀ c, k.session c = none) ∧ noRestore k ∧ k.verify.queue = [] ∧ k.store.recovery = none
    let done : ResetCause → Ctl → Ctl := fun cause k => { k with
      links := k.links.set l ({ k.link l with requests := [], notices := [], overflow := false }.pushNotice (.resetDone cause))
      inv := { k.inv with elements := k.inv.elements.map fun r => { r with reserved := if r.reserved = some (.link l) then none else r.reserved } } }
    let ends : Instr → ResetCause → Ctl → Prop := fun i cause k =>
      let b := done cause k
      let gives : Ctl → Prop := fun t => exec i s = .next (s.withCtl t)
      (∃ t, gives t ∧ reset k t)
      ∧ (quiet k → noOrder k → gives b)
      ∧ (quiet k → (∀ o ∈ k.picker.held, mine o = true) →
          gives { b with picker := { k.picker with queue := k.picker.queue.filter fun o => decide (o.state = .running) || !mine o, held := [] } })
      ∧ (∀ m, (k.door m).state = .asking → (∀ m', m' ≠ m → (k.door m').state ≠ .asking) → (∀ c, k.session c = none) → noRestore k → k.verify.queue = [] →
          k.store.recovery = none → noOrder k →
          let told : Link → Ctl → Ctl := fun l' t => if (k.door m).asked.get l' = true then t.notify (.link l') (.door m .locked .reset) else t
          ((k.door m).requester = some (.link l) → gives (told .b (told .a (b.setDoor m .initial))))
          ∧ ((k.door m).requester ≠ some (.link l) → (k.link l).online = true →
              gives ((b.setDoor m { k.door m with granted := (k.door m).granted.set l false, asked := (k.door m).asked.set l true }).notify (.link l) (.quiesceAsk m)))
          ∧ ((k.door m).requester ≠ some (.link l) → (k.link l).online = false → gives (b.setDoor m { k.door m with granted := (k.door m).granted.set l false })))
      ∧ (∀ c x r, k.session c = some x → k.session c.other = none → x.owner = l → x.state ≠ .aborting → k.cat.set? x.setId = some r → noDoor k → noRestore k →
          k.verify.queue = [] → k.store.recovery = none → (∀ o ∈ k.picker.queue, mine o = true → o.state = .running ∨ o.raisedBy = some (.chan c)) →
          (∀ i, WaitsToAbort k c x r i → ∃ t, gives t ∧ AbortBegun b t c x .reset i) ∧ (NothingInHand k c x → ∃ t, gives t ∧ AbortEnds b t c x r .reset))
      ∧ (∀ c r, k.restore.running = [r] → k.restore.queue = [] → r.requester = l → r.state = .delivering → r.chan = some c → (∀ d, k.session d = none) →
          (k.chan c).claim = none → (k.tr c).order = none → k.picker.running = none → noOrder k → noDoor k → k.verify.queue = [] → k.store.recovery = none → ∃ t, gives t
          ∧ t.restore = { k.restore with running := [] } ∧ t.cat = k.cat ∧ t.inv = b.inv ∧ t.link l.other = k.link l.other ∧ t.panel = k.panel
          ∧ (t.chan c).mode = .idle ∧ (t.chan c).drain = none ∧ (t.chan c).expander = .idle
          ∧ t.link l = { b.link l with data := (k.link l).data.set c none }.pushNotice
              (.restoreDone r.id r.set .cancelled r.delivered r.damaged (some .reset) (some r.firstLeft)))
      ∧ (∀ v r, k.verify.queue = [v] → k.cat.set? v.set = some r → r.owner = l → v.requestedBy ≠ some .panel → noDoor k → (∀ c, k.session c = none) → noRestore k →
          k.store.recovery = none → noOrder k →
          (v.state = .waiting → gives { b with verify := { k.verify with queue := [] } })
          ∧ (v.state = .paused → gives ({ b with
              verify := { k.verify with queue := [] }, store := k.store.noteChange
              cat := k.cat.modSet v.set fun r => { r with verify := .incomplete, bad := v.bad, badList := v.badList, badMore := v.badMore } }.notify (.link l)
                (.verifyDone v.set .incomplete v.done v.bad (some .reset)))))
      ∧ ∀ r, k.store.recovery = some r → r.requester = .link l → (k.tr r.chan).order = none → k.picker.running = none → noOrder k → noDoor k → (∀ c, k.session c = none) →
          noRestore k → k.verify.queue = [] → ∃ t, gives t ∧ t.store = { k.store with recovery := none } ∧ t.cat = k.cat ∧ t.inv = b.inv ∧ t.link l.other = k.link l.other
          ∧ (t.chan r.chan).claim = none ∧ (t.chan r.chan).mode = .idle ∧ (t.chan r.chan).drain = none ∧ t.panel = k.panel
          ∧ t.link l = (b.link l).pushNotice (.recoverDone r.label .cancelled 0 0 (some .reset))
    (∀ q n, AtHead s (.link l) q (.linkReset n) →
      (1 < n → exec (.linkReset (.link l) n) s = .next (s.withCtl (s.ctl.afterAnswer (.link l) q .badArgument)))
      ∧ (linkOf n = some l.other → exec (.linkReset (.link l) n) s = .next (s.withCtl (s.ctl.afterAnswer (.link l) q .notOwner)))
      ∧ (linkOf n = some l → ends (.linkReset (.link l) n) .linkReset (s.ctl.afterAnswer (.link l) q .ok)))
    ∧ ((s.ctl.link l).offlineTimer = false → exec (.offlineTimerExpiry l) s = .next s)
    ∧ ((s.ctl.link l).offlineTimer = true →
        ends (.offlineTimerExpiry l) .offline { s.ctl with links := s.ctl.links.set l { s.ctl.link l with offlineTimer := false } })

/-- R178: lock gained by an OFFLINE link makes it ONLINE and stops its timer, and what waits is sent; lost by an ONLINE link, it makes it OFFLINE with the timer running,
and the credits of the link's sessions 0. The frame being sent is sent again whole on return: that it stands back at the head of its queue, a CREDIT frame with them, and
a DATA_IN frame before every ready one, is the model's choice (assumption 26, DEDUCED). Reported again, each changes nothing. -/
def Obligations.LockGainedAndLost : Prop :=
  ∀ (s : State) (l : Link),
    let k := s.ctl
    ((k.link l).online = true → exec (.lockGained l) s = .next s)
    ∧ ((k.link l).online = false → (∀ m, (k.door m).state ≠ .asking) → (∀ c x, k.session c = some x → x.owner ≠ l) →
        exec (.lockGained l) s = .next (s.withCtl (k.setLink l ({ k.link l with online := true, offlineTimer := false }).kick)))
    ∧ ((k.link l).online = false → exec (.lockLost l) s = .next s)
    ∧ ((k.link l).online = true → ∃ t, exec (.lockLost l) s = .next (s.withCtl t)
        ∧ (∀ c, t.chan c = match k.session c with
            | some x => if x.owner = l then { k.chan c with credits := 0 } else k.chan c
            | none => k.chan c)
        ∧ (t.link l).online = false ∧ (t.link l).offlineTimer = true ∧ (t.link l).tx = none ∧ (t.link l).requests = (k.link l).requests
        ∧ t.cat = k.cat ∧ t.trans = k.trans ∧ t.picker = k.picker ∧ t.verify = k.verify ∧ t.restore = k.restore ∧ t.store = k.store
        ∧ ((∀ m, (k.door m).state ≠ .asking) → t.inv = k.inv
            ∧ (∀ r, (k.link l).tx = some (.response r) → (t.link l).responses = r :: (k.link l).responses)
            ∧ (∀ n o, (k.link l).tx = some (.notice n o) → (t.link l).notices = n :: (k.link l).notices)
            ∧ (∀ c n, (k.link l).tx = some (.credit c n) → (t.link l).creditFrames.head? = some (c, n))
            ∧ (∀ d, (k.link l).tx = some (.data d) → (t.link l).cut = some d ∧ (t.link l).data = (k.link l).data)
            ∧ ((k.link l).tx = none → (t.link l).responses = (k.link l).responses ∧ (t.link l).notices = (k.link l).notices)))

/-- R24, R43, R57, R170, R183: power-up with every switch CLOSED and no cartridge in a transport. With no good image in the flash it leaves the values after reset, but
for the key; with a good one it leaves the image's settings and dictionaries and its catalog settled, and neither link nor panel is told that the store is LOST. Either
way the picker homes with SCAN_ALL as its only order, every element is UNCERTAIN and both links are OFFLINE. The model's choices: the values of the fields that the manual gives
none (assumption 41), and whether the image is good as an operand (assumption 6). -/
def Obligations.PowerUpResets : Prop :=
  ∀ (s : State) (key : Key),
    let i : Bool → Instr := fun intact => .powerUp { doorL := false, doorR := false, mail := false, key := key } .noCartridge .noCartridge intact
    (∀ intact, intact = false ∨ s.ctl.store.flash = none →
      exec (i intact) s = .next (s.withCtl { Ctl.reset with inv := { Ctl.reset.inv with key := key } }))
    ∧ ∀ x : Image, s.ctl.store.flash = some x → ∃ t, exec (i true) s = .next (s.withCtl t)
        ∧ t.inv = { Ctl.reset.inv with key := key, protect := x.protect } ∧ t.picker = Picker.initial ∧ t.dicts = x.dicts ∧ t.cat = x.catalog.settle
        ∧ t.verify = { queue := [], policies := x.policies, skips := ⟨0, 0⟩ } ∧ t.restore = Ctl.reset.restore ∧ t.chans = Ctl.reset.chans ∧ t.trans = Ctl.reset.trans
        ∧ t.climate.watches = x.watches ∧ t.climate.interval = x.interval ∧ t.climate.acclimation = x.acclimation ∧ t.climate.lastTemperature = none
        ∧ t.store.flash = some x ∧ t.store.auto = x.auto ∧ t.store.state = (if x.catalog.settle = x.catalog then .clean else .dirty)
        ∧ (∀ l, (t.link l).online = false ∧ (t.link l).notices = [.resetDone .powerUp]) ∧ t.panel.notices = [.resetDone .powerUp]

/-! ## Rules over every command -/

/-- The settings, that is the protect code, the key, the Climate Monitor, the dictionaries, the policies and the auto-checkpoint flag, are changed by no command but
those that set them, the sensor's, and the resets. -/
def Obligations.SettingsStand : Prop := ∀ (i : Instr) (s t : State), setsStanding i = false → exec i s = .next t → t.ctl.standing = s.ctl.standing

/-- The picker's state, its command, what it carries and what a fault has left it are changed by no command but the start of an order, the picker's own reports and its
timer, RESUME_PICKER, a door's opening, the minute timer, which counts down the acclimation of a cartridge that is being looked for, and the resets at power-up,
LIBRARY_RESET and RELOAD. The elements, doors and mail slot are changed by no command of the channels, the Move Queue's requests, the climate, the catalog, the
dictionaries, the store or the ports' frames, but for THREADED, which writes a tab, CLEAR_ACCLIMATION, CANCEL_MOVE, a transport's reset, a link's lock, reset or offline
timer, and the report, error and timer of the flash at the end of a RELOAD, which make no claim here. The law of the library's elements (R1), over every command: no label
stands in the entry of two elements that are not UNCERTAIN, an EMPTY element has no entry and a FULL one has one. -/
def Obligations.MotionAndElementsStand : Prop :=
  (∀ (i : Instr) (s t : State), exec i s = .next t →
    (movesPicker i = false → t.ctl.motion = s.ctl.motion) ∧ (leavesElements i = true → t.ctl.inv = s.ctl.inv))
  ∧ (∀ (i : Instr) (s t : State), ElementLaw s.ctl → exec i s = .next t → ElementLaw t.ctl) ∧ ElementLaw State.reset.ctl
end

