-- ==== Sys2Proof/Laws/State.lean ====
section
/-! SUPPORT. Reading a part of the controller after a write of a part: one lemma per part and write, and the two laws of a pair (what was written is read, the other is
unchanged). -/

namespace Sys2Proof.Machine

/-! ## Pairs -/

@[simp] theorem PerLink.get_set_same {α : Type} (p : PerLink α) (i : Link) (v : α) : (p.set i v).get i = v := by cases i <;> rfl
theorem PerLink.get_set_other {α : Type} (p : PerLink α) {i j : Link} (v : α) (h : j ≠ i) : (p.set i v).get j = p.get j := by
  cases i <;> cases j <;> first | rfl | exact absurd rfl h
theorem PerLink.get_set {α : Type} (p : PerLink α) (i j : Link) (v : α) : (p.set i v).get j = if j = i then v else p.get j := by
  cases i <;> cases j <;> rfl
@[simp] theorem PerLink.set_set {α : Type} (p : PerLink α) (i : Link) (v w : α) : (p.set i v).set i w = p.set i w := by cases i <;> rfl
@[simp] theorem PerLink.set_get {α : Type} (p : PerLink α) (i : Link) : p.set i (p.get i) = p := by cases i <;> rfl

@[simp] theorem PerChan.get_set_same {α : Type} (p : PerChan α) (i : Chan) (v : α) : (p.set i v).get i = v := by cases i <;> rfl
theorem PerChan.get_set_other {α : Type} (p : PerChan α) {i j : Chan} (v : α) (h : j ≠ i) : (p.set i v).get j = p.get j := by
  cases i <;> cases j <;> first | rfl | exact absurd rfl h
theorem PerChan.get_set {α : Type} (p : PerChan α) (i j : Chan) (v : α) : (p.set i v).get j = if j = i then v else p.get j := by
  cases i <;> cases j <;> rfl
@[simp] theorem PerChan.set_set {α : Type} (p : PerChan α) (i : Chan) (v w : α) : (p.set i v).set i w = p.set i w := by cases i <;> rfl
@[simp] theorem PerChan.set_get {α : Type} (p : PerChan α) (i : Chan) : p.set i (p.get i) = p := by cases i <;> rfl

@[simp] theorem PerMag.get_set_same {α : Type} (p : PerMag α) (i : Mag) (v : α) : (p.set i v).get i = v := by cases i <;> rfl
theorem PerMag.get_set_other {α : Type} (p : PerMag α) {i j : Mag} (v : α) (h : j ≠ i) : (p.set i v).get j = p.get j := by
  cases i <;> cases j <;> first | rfl | exact absurd rfl h
theorem PerMag.get_set {α : Type} (p : PerMag α) (i j : Mag) (v : α) : (p.set i v).get j = if j = i then v else p.get j := by
  cases i <;> cases j <;> rfl
@[simp] theorem PerMag.set_set {α : Type} (p : PerMag α) (i : Mag) (v w : α) : (p.set i v).set i w = p.set i w := by cases i <;> rfl
@[simp] theorem PerMag.set_get {α : Type} (p : PerMag α) (i : Mag) : p.set i (p.get i) = p := by cases i <;> rfl

@[simp] theorem PerWatch.get_set_same {α : Type} (p : PerWatch α) (i : WatchId) (v : α) : (p.set i v).get i = v := by cases i <;> rfl
theorem PerWatch.get_set_other {α : Type} (p : PerWatch α) {i j : WatchId} (v : α) (h : j ≠ i) : (p.set i v).get j = p.get j := by
  cases i <;> cases j <;> first | rfl | exact absurd rfl h
theorem PerWatch.get_set {α : Type} (p : PerWatch α) (i j : WatchId) (v : α) : (p.set i v).get j = if j = i then v else p.get j := by
  cases i <;> cases j <;> rfl
@[simp] theorem PerWatch.set_set {α : Type} (p : PerWatch α) (i : WatchId) (v w : α) : (p.set i v).set i w = p.set i w := by cases i <;> rfl
@[simp] theorem PerWatch.set_get {α : Type} (p : PerWatch α) (i : WatchId) : p.set i (p.get i) = p := by cases i <;> rfl

/-! ## Elements -/

theorem Element.ix_injective {a b : Element} (h : a.ix = b.ix) : a = b := by
  have key : ∀ e : Element, Element.ofId (e.ix.val + 1) = some e := by
    intro e
    rcases e with ⟨i, hi⟩ | _ | c | _
    · simp [Element.ix, Element.ofId, hi]
    · rfl
    · cases c <;> rfl
    · rfl
  have := key a
  rw [h, key b] at this
  exact (Option.some.inj this).symm

theorem elements_get_set (v : Vector ElementRec 28) (i j : Fin 28) (r : ElementRec) : (v.set i r).get j = if j = i then r else v.get j := by
  have : (v.set i r).get j = (v.set i r)[j.val] := rfl
  rw [this, Vector.getElem_set]
  by_cases h : i.val = j.val
  · simp [h, Fin.ext h.symm]
  · have h' : j ≠ i := fun e => h (by rw [e])
    simp [h, h']; rfl

@[simp] theorem Ctl.elem_setElem_same (s : Ctl) (x : Element) (r : ElementRec) : (s.setElem x r).elem x = r := by
  simp [Ctl.elem, Ctl.setElem, elements_get_set]

theorem Ctl.elem_setElem_other (s : Ctl) {x y : Element} (r : ElementRec) (h : y ≠ x) : (s.setElem x r).elem y = s.elem y := by
  have : y.ix ≠ x.ix := fun e => h (Element.ix_injective e)
  simp [Ctl.elem, Ctl.setElem, elements_get_set, this]

/-! ## Channels, transports, links and doors -/

@[simp] theorem Ctl.chan_setChan_same (s : Ctl) (c : Chan) (v : Channel) : (s.setChan c v).chan c = v := by simp [Ctl.chan, Ctl.setChan]
theorem Ctl.chan_setChan (s : Ctl) (c d : Chan) (v : Channel) : (s.setChan c v).chan d = if d = c then v else s.chan d := PerChan.get_set _ _ _ _
@[simp] theorem Ctl.session_setChan_same (s : Ctl) (c : Chan) (v : Channel) : (s.setChan c v).session c = v.session := by simp [Ctl.session]
@[simp] theorem Ctl.tr_setTr_same (s : Ctl) (c : Chan) (v : Transport) : (s.setTr c v).tr c = v := by simp [Ctl.tr, Ctl.setTr]
theorem Ctl.tr_setTr (s : Ctl) (c d : Chan) (v : Transport) : (s.setTr c v).tr d = if d = c then v else s.tr d := PerChan.get_set _ _ _ _
@[simp] theorem Ctl.link_setLink_same (s : Ctl) (l : Link) (v : LinkPort) : (s.setLink l v).link l = v := by simp [Ctl.link, Ctl.setLink]
theorem Ctl.link_setLink (s : Ctl) (l k : Link) (v : LinkPort) : (s.setLink l v).link k = if k = l then v else s.link k := PerLink.get_set _ _ _ _
@[simp] theorem Ctl.door_setDoor_same (s : Ctl) (m : Mag) (v : Door) : (s.setDoor m v).door m = v := by simp [Ctl.door, Ctl.setDoor]
theorem Ctl.door_setDoor (s : Ctl) (m k : Mag) (v : Door) : (s.setDoor m v).door k = if k = m then v else s.door k := PerMag.get_set _ _ _ _

/-! ## One part written, another read -/

/-! ### setElem -/

@[simp] theorem Ctl.setElem_picker (s : Ctl) (x : Element) (r : ElementRec) : (s.setElem x r).picker = s.picker := rfl
@[simp] theorem Ctl.setElem_climate (s : Ctl) (x : Element) (r : ElementRec) : (s.setElem x r).climate = s.climate := rfl
@[simp] theorem Ctl.setElem_cat (s : Ctl) (x : Element) (r : ElementRec) : (s.setElem x r).cat = s.cat := rfl
@[simp] theorem Ctl.setElem_dicts (s : Ctl) (x : Element) (r : ElementRec) : (s.setElem x r).dicts = s.dicts := rfl
@[simp] theorem Ctl.setElem_chans (s : Ctl) (x : Element) (r : ElementRec) : (s.setElem x r).chans = s.chans := rfl
@[simp] theorem Ctl.setElem_trans (s : Ctl) (x : Element) (r : ElementRec) : (s.setElem x r).trans = s.trans := rfl
@[simp] theorem Ctl.setElem_verify (s : Ctl) (x : Element) (r : ElementRec) : (s.setElem x r).verify = s.verify := rfl
@[simp] theorem Ctl.setElem_restore (s : Ctl) (x : Element) (r : ElementRec) : (s.setElem x r).restore = s.restore := rfl
@[simp] theorem Ctl.setElem_store (s : Ctl) (x : Element) (r : ElementRec) : (s.setElem x r).store = s.store := rfl
@[simp] theorem Ctl.setElem_links (s : Ctl) (x : Element) (r : ElementRec) : (s.setElem x r).links = s.links := rfl
@[simp] theorem Ctl.setElem_panel (s : Ctl) (x : Element) (r : ElementRec) : (s.setElem x r).panel = s.panel := rfl
@[simp] theorem Ctl.setElem_inv_elements (s : Ctl) (x : Element) (r : ElementRec) : (s.setElem x r).inv.elements = s.inv.elements.set x.ix r := rfl
@[simp] theorem Ctl.setElem_inv_protect (s : Ctl) (x : Element) (r : ElementRec) : (s.setElem x r).inv.protect = s.inv.protect := rfl
@[simp] theorem Ctl.setElem_inv_doors (s : Ctl) (x : Element) (r : ElementRec) : (s.setElem x r).inv.doors = s.inv.doors := rfl
@[simp] theorem Ctl.setElem_inv_mail (s : Ctl) (x : Element) (r : ElementRec) : (s.setElem x r).inv.mail = s.inv.mail := rfl
@[simp] theorem Ctl.setElem_inv_key (s : Ctl) (x : Element) (r : ElementRec) : (s.setElem x r).inv.key = s.inv.key := rfl
@[simp] theorem Ctl.setElem_door (s : Ctl) (x : Element) (r : ElementRec) (m : Mag) : (s.setElem x r).door m = s.door m := rfl
@[simp] theorem Ctl.setElem_chan (s : Ctl) (x : Element) (r : ElementRec) (c : Chan) : (s.setElem x r).chan c = s.chan c := rfl
@[simp] theorem Ctl.setElem_tr (s : Ctl) (x : Element) (r : ElementRec) (c : Chan) : (s.setElem x r).tr c = s.tr c := rfl
@[simp] theorem Ctl.setElem_link (s : Ctl) (x : Element) (r : ElementRec) (l : Link) : (s.setElem x r).link l = s.link l := rfl
@[simp] theorem Ctl.setElem_session (s : Ctl) (x : Element) (r : ElementRec) (c : Chan) : (s.setElem x r).session c = s.session c := rfl

/-! ### setDoor -/

@[simp] theorem Ctl.setDoor_picker (s : Ctl) (x : Mag) (d : Door) : (s.setDoor x d).picker = s.picker := rfl
@[simp] theorem Ctl.setDoor_climate (s : Ctl) (x : Mag) (d : Door) : (s.setDoor x d).climate = s.climate := rfl
@[simp] theorem Ctl.setDoor_cat (s : Ctl) (x : Mag) (d : Door) : (s.setDoor x d).cat = s.cat := rfl
@[simp] theorem Ctl.setDoor_dicts (s : Ctl) (x : Mag) (d : Door) : (s.setDoor x d).dicts = s.dicts := rfl
@[simp] theorem Ctl.setDoor_chans (s : Ctl) (x : Mag) (d : Door) : (s.setDoor x d).chans = s.chans := rfl
@[simp] theorem Ctl.setDoor_trans (s : Ctl) (x : Mag) (d : Door) : (s.setDoor x d).trans = s.trans := rfl
@[simp] theorem Ctl.setDoor_verify (s : Ctl) (x : Mag) (d : Door) : (s.setDoor x d).verify = s.verify := rfl
@[simp] theorem Ctl.setDoor_restore (s : Ctl) (x : Mag) (d : Door) : (s.setDoor x d).restore = s.restore := rfl
@[simp] theorem Ctl.setDoor_store (s : Ctl) (x : Mag) (d : Door) : (s.setDoor x d).store = s.store := rfl
@[simp] theorem Ctl.setDoor_links (s : Ctl) (x : Mag) (d : Door) : (s.setDoor x d).links = s.links := rfl
@[simp] theorem Ctl.setDoor_panel (s : Ctl) (x : Mag) (d : Door) : (s.setDoor x d).panel = s.panel := rfl
@[simp] theorem Ctl.setDoor_inv_elements (s : Ctl) (x : Mag) (d : Door) : (s.setDoor x d).inv.elements = s.inv.elements := rfl
@[simp] theorem Ctl.setDoor_inv_protect (s : Ctl) (x : Mag) (d : Door) : (s.setDoor x d).inv.protect = s.inv.protect := rfl
@[simp] theorem Ctl.setDoor_inv_doors (s : Ctl) (x : Mag) (d : Door) : (s.setDoor x d).inv.doors = s.inv.doors.set x d := rfl
@[simp] theorem Ctl.setDoor_inv_mail (s : Ctl) (x : Mag) (d : Door) : (s.setDoor x d).inv.mail = s.inv.mail := rfl
@[simp] theorem Ctl.setDoor_inv_key (s : Ctl) (x : Mag) (d : Door) : (s.setDoor x d).inv.key = s.inv.key := rfl
@[simp] theorem Ctl.setDoor_elem (s : Ctl) (x : Mag) (d : Door) (e : Element) : (s.setDoor x d).elem e = s.elem e := rfl
@[simp] theorem Ctl.setDoor_chan (s : Ctl) (x : Mag) (d : Door) (c : Chan) : (s.setDoor x d).chan c = s.chan c := rfl
@[simp] theorem Ctl.setDoor_tr (s : Ctl) (x : Mag) (d : Door) (c : Chan) : (s.setDoor x d).tr c = s.tr c := rfl
@[simp] theorem Ctl.setDoor_link (s : Ctl) (x : Mag) (d : Door) (l : Link) : (s.setDoor x d).link l = s.link l := rfl
@[simp] theorem Ctl.setDoor_session (s : Ctl) (x : Mag) (d : Door) (c : Chan) : (s.setDoor x d).session c = s.session c := rfl

/-! ### setMail -/

@[simp] theorem Ctl.setMail_picker (s : Ctl) (v : MailSlot) : (s.setMail v).picker = s.picker := rfl
@[simp] theorem Ctl.setMail_climate (s : Ctl) (v : MailSlot) : (s.setMail v).climate = s.climate := rfl
@[simp] theorem Ctl.setMail_cat (s : Ctl) (v : MailSlot) : (s.setMail v).cat = s.cat := rfl
@[simp] theorem Ctl.setMail_dicts (s : Ctl) (v : MailSlot) : (s.setMail v).dicts = s.dicts := rfl
@[simp] theorem Ctl.setMail_chans (s : Ctl) (v : MailSlot) : (s.setMail v).chans = s.chans := rfl
@[simp] theorem Ctl.setMail_trans (s : Ctl) (v : MailSlot) : (s.setMail v).trans = s.trans := rfl
@[simp] theorem Ctl.setMail_verify (s : Ctl) (v : MailSlot) : (s.setMail v).verify = s.verify := rfl
@[simp] theorem Ctl.setMail_restore (s : Ctl) (v : MailSlot) : (s.setMail v).restore = s.restore := rfl
@[simp] theorem Ctl.setMail_store (s : Ctl) (v : MailSlot) : (s.setMail v).store = s.store := rfl
@[simp] theorem Ctl.setMail_links (s : Ctl) (v : MailSlot) : (s.setMail v).links = s.links := rfl
@[simp] theorem Ctl.setMail_panel (s : Ctl) (v : MailSlot) : (s.setMail v).panel = s.panel := rfl
@[simp] theorem Ctl.setMail_inv_elements (s : Ctl) (v : MailSlot) : (s.setMail v).inv.elements = s.inv.elements := rfl
@[simp] theorem Ctl.setMail_inv_protect (s : Ctl) (v : MailSlot) : (s.setMail v).inv.protect = s.inv.protect := rfl
@[simp] theorem Ctl.setMail_inv_doors (s : Ctl) (v : MailSlot) : (s.setMail v).inv.doors = s.inv.doors := rfl
@[simp] theorem Ctl.setMail_inv_mail (s : Ctl) (v : MailSlot) : (s.setMail v).inv.mail = v := rfl
@[simp] theorem Ctl.setMail_inv_key (s : Ctl) (v : MailSlot) : (s.setMail v).inv.key = s.inv.key := rfl
@[simp] theorem Ctl.setMail_elem (s : Ctl) (v : MailSlot) (e : Element) : (s.setMail v).elem e = s.elem e := rfl
@[simp] theorem Ctl.setMail_door (s : Ctl) (v : MailSlot) (m : Mag) : (s.setMail v).door m = s.door m := rfl
@[simp] theorem Ctl.setMail_chan (s : Ctl) (v : MailSlot) (c : Chan) : (s.setMail v).chan c = s.chan c := rfl
@[simp] theorem Ctl.setMail_tr (s : Ctl) (v : MailSlot) (c : Chan) : (s.setMail v).tr c = s.tr c := rfl
@[simp] theorem Ctl.setMail_link (s : Ctl) (v : MailSlot) (l : Link) : (s.setMail v).link l = s.link l := rfl
@[simp] theorem Ctl.setMail_session (s : Ctl) (v : MailSlot) (c : Chan) : (s.setMail v).session c = s.session c := rfl

/-! ### setKey -/

@[simp] theorem Ctl.setKey_picker (s : Ctl) (v : Key) : (s.setKey v).picker = s.picker := rfl
@[simp] theorem Ctl.setKey_climate (s : Ctl) (v : Key) : (s.setKey v).climate = s.climate := rfl
@[simp] theorem Ctl.setKey_cat (s : Ctl) (v : Key) : (s.setKey v).cat = s.cat := rfl
@[simp] theorem Ctl.setKey_dicts (s : Ctl) (v : Key) : (s.setKey v).dicts = s.dicts := rfl
@[simp] theorem Ctl.setKey_chans (s : Ctl) (v : Key) : (s.setKey v).chans = s.chans := rfl
@[simp] theorem Ctl.setKey_trans (s : Ctl) (v : Key) : (s.setKey v).trans = s.trans := rfl
@[simp] theorem Ctl.setKey_verify (s : Ctl) (v : Key) : (s.setKey v).verify = s.verify := rfl
@[simp] theorem Ctl.setKey_restore (s : Ctl) (v : Key) : (s.setKey v).restore = s.restore := rfl
@[simp] theorem Ctl.setKey_store (s : Ctl) (v : Key) : (s.setKey v).store = s.store := rfl
@[simp] theorem Ctl.setKey_links (s : Ctl) (v : Key) : (s.setKey v).links = s.links := rfl
@[simp] theorem Ctl.setKey_panel (s : Ctl) (v : Key) : (s.setKey v).panel = s.panel := rfl
@[simp] theorem Ctl.setKey_inv_elements (s : Ctl) (v : Key) : (s.setKey v).inv.elements = s.inv.elements := rfl
@[simp] theorem Ctl.setKey_inv_protect (s : Ctl) (v : Key) : (s.setKey v).inv.protect = s.inv.protect := rfl
@[simp] theorem Ctl.setKey_inv_doors (s : Ctl) (v : Key) : (s.setKey v).inv.doors = s.inv.doors := rfl
@[simp] theorem Ctl.setKey_inv_mail (s : Ctl) (v : Key) : (s.setKey v).inv.mail = s.inv.mail := rfl
@[simp] theorem Ctl.setKey_inv_key (s : Ctl) (v : Key) : (s.setKey v).inv.key = v := rfl
@[simp] theorem Ctl.setKey_elem (s : Ctl) (v : Key) (e : Element) : (s.setKey v).elem e = s.elem e := rfl
@[simp] theorem Ctl.setKey_door (s : Ctl) (v : Key) (m : Mag) : (s.setKey v).door m = s.door m := rfl
@[simp] theorem Ctl.setKey_chan (s : Ctl) (v : Key) (c : Chan) : (s.setKey v).chan c = s.chan c := rfl
@[simp] theorem Ctl.setKey_tr (s : Ctl) (v : Key) (c : Chan) : (s.setKey v).tr c = s.tr c := rfl
@[simp] theorem Ctl.setKey_link (s : Ctl) (v : Key) (l : Link) : (s.setKey v).link l = s.link l := rfl
@[simp] theorem Ctl.setKey_session (s : Ctl) (v : Key) (c : Chan) : (s.setKey v).session c = s.session c := rfl

/-! ### setProtectCode -/

@[simp] theorem Ctl.setProtectCode_picker (s : Ctl) (v : Protect) : (s.setProtectCode v).picker = s.picker := rfl
@[simp] theorem Ctl.setProtectCode_climate (s : Ctl) (v : Protect) : (s.setProtectCode v).climate = s.climate := rfl
@[simp] theorem Ctl.setProtectCode_cat (s : Ctl) (v : Protect) : (s.setProtectCode v).cat = s.cat := rfl
@[simp] theorem Ctl.setProtectCode_dicts (s : Ctl) (v : Protect) : (s.setProtectCode v).dicts = s.dicts := rfl
@[simp] theorem Ctl.setProtectCode_chans (s : Ctl) (v : Protect) : (s.setProtectCode v).chans = s.chans := rfl
@[simp] theorem Ctl.setProtectCode_trans (s : Ctl) (v : Protect) : (s.setProtectCode v).trans = s.trans := rfl
@[simp] theorem Ctl.setProtectCode_verify (s : Ctl) (v : Protect) : (s.setProtectCode v).verify = s.verify := rfl
@[simp] theorem Ctl.setProtectCode_restore (s : Ctl) (v : Protect) : (s.setProtectCode v).restore = s.restore := rfl
@[simp] theorem Ctl.setProtectCode_store (s : Ctl) (v : Protect) : (s.setProtectCode v).store = s.store := rfl
@[simp] theorem Ctl.setProtectCode_links (s : Ctl) (v : Protect) : (s.setProtectCode v).links = s.links := rfl
@[simp] theorem Ctl.setProtectCode_panel (s : Ctl) (v : Protect) : (s.setProtectCode v).panel = s.panel := rfl
@[simp] theorem Ctl.setProtectCode_inv_elements (s : Ctl) (v : Protect) : (s.setProtectCode v).inv.elements = s.inv.elements := rfl
@[simp] theorem Ctl.setProtectCode_inv_protect (s : Ctl) (v : Protect) : (s.setProtectCode v).inv.protect = v := rfl
@[simp] theorem Ctl.setProtectCode_inv_doors (s : Ctl) (v : Protect) : (s.setProtectCode v).inv.doors = s.inv.doors := rfl
@[simp] theorem Ctl.setProtectCode_inv_mail (s : Ctl) (v : Protect) : (s.setProtectCode v).inv.mail = s.inv.mail := rfl
@[simp] theorem Ctl.setProtectCode_inv_key (s : Ctl) (v : Protect) : (s.setProtectCode v).inv.key = s.inv.key := rfl
@[simp] theorem Ctl.setProtectCode_elem (s : Ctl) (v : Protect) (e : Element) : (s.setProtectCode v).elem e = s.elem e := rfl
@[simp] theorem Ctl.setProtectCode_door (s : Ctl) (v : Protect) (m : Mag) : (s.setProtectCode v).door m = s.door m := rfl
@[simp] theorem Ctl.setProtectCode_chan (s : Ctl) (v : Protect) (c : Chan) : (s.setProtectCode v).chan c = s.chan c := rfl
@[simp] theorem Ctl.setProtectCode_tr (s : Ctl) (v : Protect) (c : Chan) : (s.setProtectCode v).tr c = s.tr c := rfl
@[simp] theorem Ctl.setProtectCode_link (s : Ctl) (v : Protect) (l : Link) : (s.setProtectCode v).link l = s.link l := rfl
@[simp] theorem Ctl.setProtectCode_session (s : Ctl) (v : Protect) (c : Chan) : (s.setProtectCode v).session c = s.session c := rfl

/-! ### setPicker -/

@[simp] theorem Ctl.setPicker_inv (s : Ctl) (v : Picker) : (s.setPicker v).inv = s.inv := rfl
@[simp] theorem Ctl.setPicker_picker (s : Ctl) (v : Picker) : (s.setPicker v).picker = v := rfl
@[simp] theorem Ctl.setPicker_climate (s : Ctl) (v : Picker) : (s.setPicker v).climate = s.climate := rfl
@[simp] theorem Ctl.setPicker_cat (s : Ctl) (v : Picker) : (s.setPicker v).cat = s.cat := rfl
@[simp] theorem Ctl.setPicker_dicts (s : Ctl) (v : Picker) : (s.setPicker v).dicts = s.dicts := rfl
@[simp] theorem Ctl.setPicker_chans (s : Ctl) (v : Picker) : (s.setPicker v).chans = s.chans := rfl
@[simp] theorem Ctl.setPicker_trans (s : Ctl) (v : Picker) : (s.setPicker v).trans = s.trans := rfl
@[simp] theorem Ctl.setPicker_verify (s : Ctl) (v : Picker) : (s.setPicker v).verify = s.verify := rfl
@[simp] theorem Ctl.setPicker_restore (s : Ctl) (v : Picker) : (s.setPicker v).restore = s.restore := rfl
@[simp] theorem Ctl.setPicker_store (s : Ctl) (v : Picker) : (s.setPicker v).store = s.store := rfl
@[simp] theorem Ctl.setPicker_links (s : Ctl) (v : Picker) : (s.setPicker v).links = s.links := rfl
@[simp] theorem Ctl.setPicker_panel (s : Ctl) (v : Picker) : (s.setPicker v).panel = s.panel := rfl
@[simp] theorem Ctl.setPicker_inv_elements (s : Ctl) (v : Picker) : (s.setPicker v).inv.elements = s.inv.elements := rfl
@[simp] theorem Ctl.setPicker_inv_protect (s : Ctl) (v : Picker) : (s.setPicker v).inv.protect = s.inv.protect := rfl
@[simp] theorem Ctl.setPicker_inv_doors (s : Ctl) (v : Picker) : (s.setPicker v).inv.doors = s.inv.doors := rfl
@[simp] theorem Ctl.setPicker_inv_mail (s : Ctl) (v : Picker) : (s.setPicker v).inv.mail = s.inv.mail := rfl
@[simp] theorem Ctl.setPicker_inv_key (s : Ctl) (v : Picker) : (s.setPicker v).inv.key = s.inv.key := rfl
@[simp] theorem Ctl.setPicker_elem (s : Ctl) (v : Picker) (e : Element) : (s.setPicker v).elem e = s.elem e := rfl
@[simp] theorem Ctl.setPicker_door (s : Ctl) (v : Picker) (m : Mag) : (s.setPicker v).door m = s.door m := rfl
@[simp] theorem Ctl.setPicker_chan (s : Ctl) (v : Picker) (c : Chan) : (s.setPicker v).chan c = s.chan c := rfl
@[simp] theorem Ctl.setPicker_tr (s : Ctl) (v : Picker) (c : Chan) : (s.setPicker v).tr c = s.tr c := rfl
@[simp] theorem Ctl.setPicker_link (s : Ctl) (v : Picker) (l : Link) : (s.setPicker v).link l = s.link l := rfl
@[simp] theorem Ctl.setPicker_session (s : Ctl) (v : Picker) (c : Chan) : (s.setPicker v).session c = s.session c := rfl

/-! ### setClimate -/

@[simp] theorem Ctl.setClimate_inv (s : Ctl) (v : Climate) : (s.setClimate v).inv = s.inv := rfl
@[simp] theorem Ctl.setClimate_picker (s : Ctl) (v : Climate) : (s.setClimate v).picker = s.picker := rfl
@[simp] theorem Ctl.setClimate_climate (s : Ctl) (v : Climate) : (s.setClimate v).climate = v := rfl
@[simp] theorem Ctl.setClimate_cat (s : Ctl) (v : Climate) : (s.setClimate v).cat = s.cat := rfl
@[simp] theorem Ctl.setClimate_dicts (s : Ctl) (v : Climate) : (s.setClimate v).dicts = s.dicts := rfl
@[simp] theorem Ctl.setClimate_chans (s : Ctl) (v : Climate) : (s.setClimate v).chans = s.chans := rfl
@[simp] theorem Ctl.setClimate_trans (s : Ctl) (v : Climate) : (s.setClimate v).trans = s.trans := rfl
@[simp] theorem Ctl.setClimate_verify (s : Ctl) (v : Climate) : (s.setClimate v).verify = s.verify := rfl
@[simp] theorem Ctl.setClimate_restore (s : Ctl) (v : Climate) : (s.setClimate v).restore = s.restore := rfl
@[simp] theorem Ctl.setClimate_store (s : Ctl) (v : Climate) : (s.setClimate v).store = s.store := rfl
@[simp] theorem Ctl.setClimate_links (s : Ctl) (v : Climate) : (s.setClimate v).links = s.links := rfl
@[simp] theorem Ctl.setClimate_panel (s : Ctl) (v : Climate) : (s.setClimate v).panel = s.panel := rfl
@[simp] theorem Ctl.setClimate_inv_elements (s : Ctl) (v : Climate) : (s.setClimate v).inv.elements = s.inv.elements := rfl
@[simp] theorem Ctl.setClimate_inv_protect (s : Ctl) (v : Climate) : (s.setClimate v).inv.protect = s.inv.protect := rfl
@[simp] theorem Ctl.setClimate_inv_doors (s : Ctl) (v : Climate) : (s.setClimate v).inv.doors = s.inv.doors := rfl
@[simp] theorem Ctl.setClimate_inv_mail (s : Ctl) (v : Climate) : (s.setClimate v).inv.mail = s.inv.mail := rfl
@[simp] theorem Ctl.setClimate_inv_key (s : Ctl) (v : Climate) : (s.setClimate v).inv.key = s.inv.key := rfl
@[simp] theorem Ctl.setClimate_elem (s : Ctl) (v : Climate) (e : Element) : (s.setClimate v).elem e = s.elem e := rfl
@[simp] theorem Ctl.setClimate_door (s : Ctl) (v : Climate) (m : Mag) : (s.setClimate v).door m = s.door m := rfl
@[simp] theorem Ctl.setClimate_chan (s : Ctl) (v : Climate) (c : Chan) : (s.setClimate v).chan c = s.chan c := rfl
@[simp] theorem Ctl.setClimate_tr (s : Ctl) (v : Climate) (c : Chan) : (s.setClimate v).tr c = s.tr c := rfl
@[simp] theorem Ctl.setClimate_link (s : Ctl) (v : Climate) (l : Link) : (s.setClimate v).link l = s.link l := rfl
@[simp] theorem Ctl.setClimate_session (s : Ctl) (v : Climate) (c : Chan) : (s.setClimate v).session c = s.session c := rfl

/-! ### setCat -/

@[simp] theorem Ctl.setCat_inv (s : Ctl) (v : Catalog) : (s.setCat v).inv = s.inv := rfl
@[simp] theorem Ctl.setCat_picker (s : Ctl) (v : Catalog) : (s.setCat v).picker = s.picker := rfl
@[simp] theorem Ctl.setCat_climate (s : Ctl) (v : Catalog) : (s.setCat v).climate = s.climate := rfl
@[simp] theorem Ctl.setCat_cat (s : Ctl) (v : Catalog) : (s.setCat v).cat = v := rfl
@[simp] theorem Ctl.setCat_dicts (s : Ctl) (v : Catalog) : (s.setCat v).dicts = s.dicts := rfl
@[simp] theorem Ctl.setCat_chans (s : Ctl) (v : Catalog) : (s.setCat v).chans = s.chans := rfl
@[simp] theorem Ctl.setCat_trans (s : Ctl) (v : Catalog) : (s.setCat v).trans = s.trans := rfl
@[simp] theorem Ctl.setCat_verify (s : Ctl) (v : Catalog) : (s.setCat v).verify = s.verify := rfl
@[simp] theorem Ctl.setCat_restore (s : Ctl) (v : Catalog) : (s.setCat v).restore = s.restore := rfl
@[simp] theorem Ctl.setCat_store (s : Ctl) (v : Catalog) : (s.setCat v).store = s.store := rfl
@[simp] theorem Ctl.setCat_links (s : Ctl) (v : Catalog) : (s.setCat v).links = s.links := rfl
@[simp] theorem Ctl.setCat_panel (s : Ctl) (v : Catalog) : (s.setCat v).panel = s.panel := rfl
@[simp] theorem Ctl.setCat_inv_elements (s : Ctl) (v : Catalog) : (s.setCat v).inv.elements = s.inv.elements := rfl
@[simp] theorem Ctl.setCat_inv_protect (s : Ctl) (v : Catalog) : (s.setCat v).inv.protect = s.inv.protect := rfl
@[simp] theorem Ctl.setCat_inv_doors (s : Ctl) (v : Catalog) : (s.setCat v).inv.doors = s.inv.doors := rfl
@[simp] theorem Ctl.setCat_inv_mail (s : Ctl) (v : Catalog) : (s.setCat v).inv.mail = s.inv.mail := rfl
@[simp] theorem Ctl.setCat_inv_key (s : Ctl) (v : Catalog) : (s.setCat v).inv.key = s.inv.key := rfl
@[simp] theorem Ctl.setCat_elem (s : Ctl) (v : Catalog) (e : Element) : (s.setCat v).elem e = s.elem e := rfl
@[simp] theorem Ctl.setCat_door (s : Ctl) (v : Catalog) (m : Mag) : (s.setCat v).door m = s.door m := rfl
@[simp] theorem Ctl.setCat_chan (s : Ctl) (v : Catalog) (c : Chan) : (s.setCat v).chan c = s.chan c := rfl
@[simp] theorem Ctl.setCat_tr (s : Ctl) (v : Catalog) (c : Chan) : (s.setCat v).tr c = s.tr c := rfl
@[simp] theorem Ctl.setCat_link (s : Ctl) (v : Catalog) (l : Link) : (s.setCat v).link l = s.link l := rfl
@[simp] theorem Ctl.setCat_session (s : Ctl) (v : Catalog) (c : Chan) : (s.setCat v).session c = s.session c := rfl

/-! ### setDicts -/

@[simp] theorem Ctl.setDicts_inv (s : Ctl) (v : Dicts) : (s.setDicts v).inv = s.inv := rfl
@[simp] theorem Ctl.setDicts_picker (s : Ctl) (v : Dicts) : (s.setDicts v).picker = s.picker := rfl
@[simp] theorem Ctl.setDicts_climate (s : Ctl) (v : Dicts) : (s.setDicts v).climate = s.climate := rfl
@[simp] theorem Ctl.setDicts_cat (s : Ctl) (v : Dicts) : (s.setDicts v).cat = s.cat := rfl
@[simp] theorem Ctl.setDicts_dicts (s : Ctl) (v : Dicts) : (s.setDicts v).dicts = v := rfl
@[simp] theorem Ctl.setDicts_chans (s : Ctl) (v : Dicts) : (s.setDicts v).chans = s.chans := rfl
@[simp] theorem Ctl.setDicts_trans (s : Ctl) (v : Dicts) : (s.setDicts v).trans = s.trans := rfl
@[simp] theorem Ctl.setDicts_verify (s : Ctl) (v : Dicts) : (s.setDicts v).verify = s.verify := rfl
@[simp] theorem Ctl.setDicts_restore (s : Ctl) (v : Dicts) : (s.setDicts v).restore = s.restore := rfl
@[simp] theorem Ctl.setDicts_store (s : Ctl) (v : Dicts) : (s.setDicts v).store = s.store := rfl
@[simp] theorem Ctl.setDicts_links (s : Ctl) (v : Dicts) : (s.setDicts v).links = s.links := rfl
@[simp] theorem Ctl.setDicts_panel (s : Ctl) (v : Dicts) : (s.setDicts v).panel = s.panel := rfl
@[simp] theorem Ctl.setDicts_inv_elements (s : Ctl) (v : Dicts) : (s.setDicts v).inv.elements = s.inv.elements := rfl
@[simp] theorem Ctl.setDicts_inv_protect (s : Ctl) (v : Dicts) : (s.setDicts v).inv.protect = s.inv.protect := rfl
@[simp] theorem Ctl.setDicts_inv_doors (s : Ctl) (v : Dicts) : (s.setDicts v).inv.doors = s.inv.doors := rfl
@[simp] theorem Ctl.setDicts_inv_mail (s : Ctl) (v : Dicts) : (s.setDicts v).inv.mail = s.inv.mail := rfl
@[simp] theorem Ctl.setDicts_inv_key (s : Ctl) (v : Dicts) : (s.setDicts v).inv.key = s.inv.key := rfl
@[simp] theorem Ctl.setDicts_elem (s : Ctl) (v : Dicts) (e : Element) : (s.setDicts v).elem e = s.elem e := rfl
@[simp] theorem Ctl.setDicts_door (s : Ctl) (v : Dicts) (m : Mag) : (s.setDicts v).door m = s.door m := rfl
@[simp] theorem Ctl.setDicts_chan (s : Ctl) (v : Dicts) (c : Chan) : (s.setDicts v).chan c = s.chan c := rfl
@[simp] theorem Ctl.setDicts_tr (s : Ctl) (v : Dicts) (c : Chan) : (s.setDicts v).tr c = s.tr c := rfl
@[simp] theorem Ctl.setDicts_link (s : Ctl) (v : Dicts) (l : Link) : (s.setDicts v).link l = s.link l := rfl
@[simp] theorem Ctl.setDicts_session (s : Ctl) (v : Dicts) (c : Chan) : (s.setDicts v).session c = s.session c := rfl

/-! ### setVerify -/

@[simp] theorem Ctl.setVerify_inv (s : Ctl) (v : VerifyUnit) : (s.setVerify v).inv = s.inv := rfl
@[simp] theorem Ctl.setVerify_picker (s : Ctl) (v : VerifyUnit) : (s.setVerify v).picker = s.picker := rfl
@[simp] theorem Ctl.setVerify_climate (s : Ctl) (v : VerifyUnit) : (s.setVerify v).climate = s.climate := rfl
@[simp] theorem Ctl.setVerify_cat (s : Ctl) (v : VerifyUnit) : (s.setVerify v).cat = s.cat := rfl
@[simp] theorem Ctl.setVerify_dicts (s : Ctl) (v : VerifyUnit) : (s.setVerify v).dicts = s.dicts := rfl
@[simp] theorem Ctl.setVerify_chans (s : Ctl) (v : VerifyUnit) : (s.setVerify v).chans = s.chans := rfl
@[simp] theorem Ctl.setVerify_trans (s : Ctl) (v : VerifyUnit) : (s.setVerify v).trans = s.trans := rfl
@[simp] theorem Ctl.setVerify_verify (s : Ctl) (v : VerifyUnit) : (s.setVerify v).verify = v := rfl
@[simp] theorem Ctl.setVerify_restore (s : Ctl) (v : VerifyUnit) : (s.setVerify v).restore = s.restore := rfl
@[simp] theorem Ctl.setVerify_store (s : Ctl) (v : VerifyUnit) : (s.setVerify v).store = s.store := rfl
@[simp] theorem Ctl.setVerify_links (s : Ctl) (v : VerifyUnit) : (s.setVerify v).links = s.links := rfl
@[simp] theorem Ctl.setVerify_panel (s : Ctl) (v : VerifyUnit) : (s.setVerify v).panel = s.panel := rfl
@[simp] theorem Ctl.setVerify_inv_elements (s : Ctl) (v : VerifyUnit) : (s.setVerify v).inv.elements = s.inv.elements := rfl
@[simp] theorem Ctl.setVerify_inv_protect (s : Ctl) (v : VerifyUnit) : (s.setVerify v).inv.protect = s.inv.protect := rfl
@[simp] theorem Ctl.setVerify_inv_doors (s : Ctl) (v : VerifyUnit) : (s.setVerify v).inv.doors = s.inv.doors := rfl
@[simp] theorem Ctl.setVerify_inv_mail (s : Ctl) (v : VerifyUnit) : (s.setVerify v).inv.mail = s.inv.mail := rfl
@[simp] theorem Ctl.setVerify_inv_key (s : Ctl) (v : VerifyUnit) : (s.setVerify v).inv.key = s.inv.key := rfl
@[simp] theorem Ctl.setVerify_elem (s : Ctl) (v : VerifyUnit) (e : Element) : (s.setVerify v).elem e = s.elem e := rfl
@[simp] theorem Ctl.setVerify_door (s : Ctl) (v : VerifyUnit) (m : Mag) : (s.setVerify v).door m = s.door m := rfl
@[simp] theorem Ctl.setVerify_chan (s : Ctl) (v : VerifyUnit) (c : Chan) : (s.setVerify v).chan c = s.chan c := rfl
@[simp] theorem Ctl.setVerify_tr (s : Ctl) (v : VerifyUnit) (c : Chan) : (s.setVerify v).tr c = s.tr c := rfl
@[simp] theorem Ctl.setVerify_link (s : Ctl) (v : VerifyUnit) (l : Link) : (s.setVerify v).link l = s.link l := rfl
@[simp] theorem Ctl.setVerify_session (s : Ctl) (v : VerifyUnit) (c : Chan) : (s.setVerify v).session c = s.session c := rfl

/-! ### setRestore -/

@[simp] theorem Ctl.setRestore_inv (s : Ctl) (v : RestoreUnit) : (s.setRestore v).inv = s.inv := rfl
@[simp] theorem Ctl.setRestore_picker (s : Ctl) (v : RestoreUnit) : (s.setRestore v).picker = s.picker := rfl
@[simp] theorem Ctl.setRestore_climate (s : Ctl) (v : RestoreUnit) : (s.setRestore v).climate = s.climate := rfl
@[simp] theorem Ctl.setRestore_cat (s : Ctl) (v : RestoreUnit) : (s.setRestore v).cat = s.cat := rfl
@[simp] theorem Ctl.setRestore_dicts (s : Ctl) (v : RestoreUnit) : (s.setRestore v).dicts = s.dicts := rfl
@[simp] theorem Ctl.setRestore_chans (s : Ctl) (v : RestoreUnit) : (s.setRestore v).chans = s.chans := rfl
@[simp] theorem Ctl.setRestore_trans (s : Ctl) (v : RestoreUnit) : (s.setRestore v).trans = s.trans := rfl
@[simp] theorem Ctl.setRestore_verify (s : Ctl) (v : RestoreUnit) : (s.setRestore v).verify = s.verify := rfl
@[simp] theorem Ctl.setRestore_restore (s : Ctl) (v : RestoreUnit) : (s.setRestore v).restore = v := rfl
@[simp] theorem Ctl.setRestore_store (s : Ctl) (v : RestoreUnit) : (s.setRestore v).store = s.store := rfl
@[simp] theorem Ctl.setRestore_links (s : Ctl) (v : RestoreUnit) : (s.setRestore v).links = s.links := rfl
@[simp] theorem Ctl.setRestore_panel (s : Ctl) (v : RestoreUnit) : (s.setRestore v).panel = s.panel := rfl
@[simp] theorem Ctl.setRestore_inv_elements (s : Ctl) (v : RestoreUnit) : (s.setRestore v).inv.elements = s.inv.elements := rfl
@[simp] theorem Ctl.setRestore_inv_protect (s : Ctl) (v : RestoreUnit) : (s.setRestore v).inv.protect = s.inv.protect := rfl
@[simp] theorem Ctl.setRestore_inv_doors (s : Ctl) (v : RestoreUnit) : (s.setRestore v).inv.doors = s.inv.doors := rfl
@[simp] theorem Ctl.setRestore_inv_mail (s : Ctl) (v : RestoreUnit) : (s.setRestore v).inv.mail = s.inv.mail := rfl
@[simp] theorem Ctl.setRestore_inv_key (s : Ctl) (v : RestoreUnit) : (s.setRestore v).inv.key = s.inv.key := rfl
@[simp] theorem Ctl.setRestore_elem (s : Ctl) (v : RestoreUnit) (e : Element) : (s.setRestore v).elem e = s.elem e := rfl
@[simp] theorem Ctl.setRestore_door (s : Ctl) (v : RestoreUnit) (m : Mag) : (s.setRestore v).door m = s.door m := rfl
@[simp] theorem Ctl.setRestore_chan (s : Ctl) (v : RestoreUnit) (c : Chan) : (s.setRestore v).chan c = s.chan c := rfl
@[simp] theorem Ctl.setRestore_tr (s : Ctl) (v : RestoreUnit) (c : Chan) : (s.setRestore v).tr c = s.tr c := rfl
@[simp] theorem Ctl.setRestore_link (s : Ctl) (v : RestoreUnit) (l : Link) : (s.setRestore v).link l = s.link l := rfl
@[simp] theorem Ctl.setRestore_session (s : Ctl) (v : RestoreUnit) (c : Chan) : (s.setRestore v).session c = s.session c := rfl

/-! ### setStore -/

@[simp] theorem Ctl.setStore_inv (s : Ctl) (v : Store) : (s.setStore v).inv = s.inv := rfl
@[simp] theorem Ctl.setStore_picker (s : Ctl) (v : Store) : (s.setStore v).picker = s.picker := rfl
@[simp] theorem Ctl.setStore_climate (s : Ctl) (v : Store) : (s.setStore v).climate = s.climate := rfl
@[simp] theorem Ctl.setStore_cat (s : Ctl) (v : Store) : (s.setStore v).cat = s.cat := rfl
@[simp] theorem Ctl.setStore_dicts (s : Ctl) (v : Store) : (s.setStore v).dicts = s.dicts := rfl
@[simp] theorem Ctl.setStore_chans (s : Ctl) (v : Store) : (s.setStore v).chans = s.chans := rfl
@[simp] theorem Ctl.setStore_trans (s : Ctl) (v : Store) : (s.setStore v).trans = s.trans := rfl
@[simp] theorem Ctl.setStore_verify (s : Ctl) (v : Store) : (s.setStore v).verify = s.verify := rfl
@[simp] theorem Ctl.setStore_restore (s : Ctl) (v : Store) : (s.setStore v).restore = s.restore := rfl
@[simp] theorem Ctl.setStore_store (s : Ctl) (v : Store) : (s.setStore v).store = v := rfl
@[simp] theorem Ctl.setStore_links (s : Ctl) (v : Store) : (s.setStore v).links = s.links := rfl
@[simp] theorem Ctl.setStore_panel (s : Ctl) (v : Store) : (s.setStore v).panel = s.panel := rfl
@[simp] theorem Ctl.setStore_inv_elements (s : Ctl) (v : Store) : (s.setStore v).inv.elements = s.inv.elements := rfl
@[simp] theorem Ctl.setStore_inv_protect (s : Ctl) (v : Store) : (s.setStore v).inv.protect = s.inv.protect := rfl
@[simp] theorem Ctl.setStore_inv_doors (s : Ctl) (v : Store) : (s.setStore v).inv.doors = s.inv.doors := rfl
@[simp] theorem Ctl.setStore_inv_mail (s : Ctl) (v : Store) : (s.setStore v).inv.mail = s.inv.mail := rfl
@[simp] theorem Ctl.setStore_inv_key (s : Ctl) (v : Store) : (s.setStore v).inv.key = s.inv.key := rfl
@[simp] theorem Ctl.setStore_elem (s : Ctl) (v : Store) (e : Element) : (s.setStore v).elem e = s.elem e := rfl
@[simp] theorem Ctl.setStore_door (s : Ctl) (v : Store) (m : Mag) : (s.setStore v).door m = s.door m := rfl
@[simp] theorem Ctl.setStore_chan (s : Ctl) (v : Store) (c : Chan) : (s.setStore v).chan c = s.chan c := rfl
@[simp] theorem Ctl.setStore_tr (s : Ctl) (v : Store) (c : Chan) : (s.setStore v).tr c = s.tr c := rfl
@[simp] theorem Ctl.setStore_link (s : Ctl) (v : Store) (l : Link) : (s.setStore v).link l = s.link l := rfl
@[simp] theorem Ctl.setStore_session (s : Ctl) (v : Store) (c : Chan) : (s.setStore v).session c = s.session c := rfl

/-! ### setPanel -/

@[simp] theorem Ctl.setPanel_inv (s : Ctl) (v : PanelPort) : (s.setPanel v).inv = s.inv := rfl
@[simp] theorem Ctl.setPanel_picker (s : Ctl) (v : PanelPort) : (s.setPanel v).picker = s.picker := rfl
@[simp] theorem Ctl.setPanel_climate (s : Ctl) (v : PanelPort) : (s.setPanel v).climate = s.climate := rfl
@[simp] theorem Ctl.setPanel_cat (s : Ctl) (v : PanelPort) : (s.setPanel v).cat = s.cat := rfl
@[simp] theorem Ctl.setPanel_dicts (s : Ctl) (v : PanelPort) : (s.setPanel v).dicts = s.dicts := rfl
@[simp] theorem Ctl.setPanel_chans (s : Ctl) (v : PanelPort) : (s.setPanel v).chans = s.chans := rfl
@[simp] theorem Ctl.setPanel_trans (s : Ctl) (v : PanelPort) : (s.setPanel v).trans = s.trans := rfl
@[simp] theorem Ctl.setPanel_verify (s : Ctl) (v : PanelPort) : (s.setPanel v).verify = s.verify := rfl
@[simp] theorem Ctl.setPanel_restore (s : Ctl) (v : PanelPort) : (s.setPanel v).restore = s.restore := rfl
@[simp] theorem Ctl.setPanel_store (s : Ctl) (v : PanelPort) : (s.setPanel v).store = s.store := rfl
@[simp] theorem Ctl.setPanel_links (s : Ctl) (v : PanelPort) : (s.setPanel v).links = s.links := rfl
@[simp] theorem Ctl.setPanel_panel (s : Ctl) (v : PanelPort) : (s.setPanel v).panel = v := rfl
@[simp] theorem Ctl.setPanel_inv_elements (s : Ctl) (v : PanelPort) : (s.setPanel v).inv.elements = s.inv.elements := rfl
@[simp] theorem Ctl.setPanel_inv_protect (s : Ctl) (v : PanelPort) : (s.setPanel v).inv.protect = s.inv.protect := rfl
@[simp] theorem Ctl.setPanel_inv_doors (s : Ctl) (v : PanelPort) : (s.setPanel v).inv.doors = s.inv.doors := rfl
@[simp] theorem Ctl.setPanel_inv_mail (s : Ctl) (v : PanelPort) : (s.setPanel v).inv.mail = s.inv.mail := rfl
@[simp] theorem Ctl.setPanel_inv_key (s : Ctl) (v : PanelPort) : (s.setPanel v).inv.key = s.inv.key := rfl
@[simp] theorem Ctl.setPanel_elem (s : Ctl) (v : PanelPort) (e : Element) : (s.setPanel v).elem e = s.elem e := rfl
@[simp] theorem Ctl.setPanel_door (s : Ctl) (v : PanelPort) (m : Mag) : (s.setPanel v).door m = s.door m := rfl
@[simp] theorem Ctl.setPanel_chan (s : Ctl) (v : PanelPort) (c : Chan) : (s.setPanel v).chan c = s.chan c := rfl
@[simp] theorem Ctl.setPanel_tr (s : Ctl) (v : PanelPort) (c : Chan) : (s.setPanel v).tr c = s.tr c := rfl
@[simp] theorem Ctl.setPanel_link (s : Ctl) (v : PanelPort) (l : Link) : (s.setPanel v).link l = s.link l := rfl
@[simp] theorem Ctl.setPanel_session (s : Ctl) (v : PanelPort) (c : Chan) : (s.setPanel v).session c = s.session c := rfl

/-! ### setChan -/

@[simp] theorem Ctl.setChan_inv (s : Ctl) (x : Chan) (v : Channel) : (s.setChan x v).inv = s.inv := rfl
@[simp] theorem Ctl.setChan_picker (s : Ctl) (x : Chan) (v : Channel) : (s.setChan x v).picker = s.picker := rfl
@[simp] theorem Ctl.setChan_climate (s : Ctl) (x : Chan) (v : Channel) : (s.setChan x v).climate = s.climate := rfl
@[simp] theorem Ctl.setChan_cat (s : Ctl) (x : Chan) (v : Channel) : (s.setChan x v).cat = s.cat := rfl
@[simp] theorem Ctl.setChan_dicts (s : Ctl) (x : Chan) (v : Channel) : (s.setChan x v).dicts = s.dicts := rfl
@[simp] theorem Ctl.setChan_chans (s : Ctl) (x : Chan) (v : Channel) : (s.setChan x v).chans = s.chans.set x v := rfl
@[simp] theorem Ctl.setChan_trans (s : Ctl) (x : Chan) (v : Channel) : (s.setChan x v).trans = s.trans := rfl
@[simp] theorem Ctl.setChan_verify (s : Ctl) (x : Chan) (v : Channel) : (s.setChan x v).verify = s.verify := rfl
@[simp] theorem Ctl.setChan_restore (s : Ctl) (x : Chan) (v : Channel) : (s.setChan x v).restore = s.restore := rfl
@[simp] theorem Ctl.setChan_store (s : Ctl) (x : Chan) (v : Channel) : (s.setChan x v).store = s.store := rfl
@[simp] theorem Ctl.setChan_links (s : Ctl) (x : Chan) (v : Channel) : (s.setChan x v).links = s.links := rfl
@[simp] theorem Ctl.setChan_panel (s : Ctl) (x : Chan) (v : Channel) : (s.setChan x v).panel = s.panel := rfl
@[simp] theorem Ctl.setChan_inv_elements (s : Ctl) (x : Chan) (v : Channel) : (s.setChan x v).inv.elements = s.inv.elements := rfl
@[simp] theorem Ctl.setChan_inv_protect (s : Ctl) (x : Chan) (v : Channel) : (s.setChan x v).inv.protect = s.inv.protect := rfl
@[simp] theorem Ctl.setChan_inv_doors (s : Ctl) (x : Chan) (v : Channel) : (s.setChan x v).inv.doors = s.inv.doors := rfl
@[simp] theorem Ctl.setChan_inv_mail (s : Ctl) (x : Chan) (v : Channel) : (s.setChan x v).inv.mail = s.inv.mail := rfl
@[simp] theorem Ctl.setChan_inv_key (s : Ctl) (x : Chan) (v : Channel) : (s.setChan x v).inv.key = s.inv.key := rfl
@[simp] theorem Ctl.setChan_elem (s : Ctl) (x : Chan) (v : Channel) (e : Element) : (s.setChan x v).elem e = s.elem e := rfl
@[simp] theorem Ctl.setChan_door (s : Ctl) (x : Chan) (v : Channel) (m : Mag) : (s.setChan x v).door m = s.door m := rfl
@[simp] theorem Ctl.setChan_tr (s : Ctl) (x : Chan) (v : Channel) (c : Chan) : (s.setChan x v).tr c = s.tr c := rfl
@[simp] theorem Ctl.setChan_link (s : Ctl) (x : Chan) (v : Channel) (l : Link) : (s.setChan x v).link l = s.link l := rfl

/-! ### setTr -/

@[simp] theorem Ctl.setTr_inv (s : Ctl) (x : Chan) (v : Transport) : (s.setTr x v).inv = s.inv := rfl
@[simp] theorem Ctl.setTr_picker (s : Ctl) (x : Chan) (v : Transport) : (s.setTr x v).picker = s.picker := rfl
@[simp] theorem Ctl.setTr_climate (s : Ctl) (x : Chan) (v : Transport) : (s.setTr x v).climate = s.climate := rfl
@[simp] theorem Ctl.setTr_cat (s : Ctl) (x : Chan) (v : Transport) : (s.setTr x v).cat = s.cat := rfl
@[simp] theorem Ctl.setTr_dicts (s : Ctl) (x : Chan) (v : Transport) : (s.setTr x v).dicts = s.dicts := rfl
@[simp] theorem Ctl.setTr_chans (s : Ctl) (x : Chan) (v : Transport) : (s.setTr x v).chans = s.chans := rfl
@[simp] theorem Ctl.setTr_trans (s : Ctl) (x : Chan) (v : Transport) : (s.setTr x v).trans = s.trans.set x v := rfl
@[simp] theorem Ctl.setTr_verify (s : Ctl) (x : Chan) (v : Transport) : (s.setTr x v).verify = s.verify := rfl
@[simp] theorem Ctl.setTr_restore (s : Ctl) (x : Chan) (v : Transport) : (s.setTr x v).restore = s.restore := rfl
@[simp] theorem Ctl.setTr_store (s : Ctl) (x : Chan) (v : Transport) : (s.setTr x v).store = s.store := rfl
@[simp] theorem Ctl.setTr_links (s : Ctl) (x : Chan) (v : Transport) : (s.setTr x v).links = s.links := rfl
@[simp] theorem Ctl.setTr_panel (s : Ctl) (x : Chan) (v : Transport) : (s.setTr x v).panel = s.panel := rfl
@[simp] theorem Ctl.setTr_inv_elements (s : Ctl) (x : Chan) (v : Transport) : (s.setTr x v).inv.elements = s.inv.elements := rfl
@[simp] theorem Ctl.setTr_inv_protect (s : Ctl) (x : Chan) (v : Transport) : (s.setTr x v).inv.protect = s.inv.protect := rfl
@[simp] theorem Ctl.setTr_inv_doors (s : Ctl) (x : Chan) (v : Transport) : (s.setTr x v).inv.doors = s.inv.doors := rfl
@[simp] theorem Ctl.setTr_inv_mail (s : Ctl) (x : Chan) (v : Transport) : (s.setTr x v).inv.mail = s.inv.mail := rfl
@[simp] theorem Ctl.setTr_inv_key (s : Ctl) (x : Chan) (v : Transport) : (s.setTr x v).inv.key = s.inv.key := rfl
@[simp] theorem Ctl.setTr_elem (s : Ctl) (x : Chan) (v : Transport) (e : Element) : (s.setTr x v).elem e = s.elem e := rfl
@[simp] theorem Ctl.setTr_door (s : Ctl) (x : Chan) (v : Transport) (m : Mag) : (s.setTr x v).door m = s.door m := rfl
@[simp] theorem Ctl.setTr_chan (s : Ctl) (x : Chan) (v : Transport) (c : Chan) : (s.setTr x v).chan c = s.chan c := rfl
@[simp] theorem Ctl.setTr_link (s : Ctl) (x : Chan) (v : Transport) (l : Link) : (s.setTr x v).link l = s.link l := rfl
@[simp] theorem Ctl.setTr_session (s : Ctl) (x : Chan) (v : Transport) (c : Chan) : (s.setTr x v).session c = s.session c := rfl

/-! ### setLink -/

@[simp] theorem Ctl.setLink_inv (s : Ctl) (x : Link) (v : LinkPort) : (s.setLink x v).inv = s.inv := rfl
@[simp] theorem Ctl.setLink_picker (s : Ctl) (x : Link) (v : LinkPort) : (s.setLink x v).picker = s.picker := rfl
@[simp] theorem Ctl.setLink_climate (s : Ctl) (x : Link) (v : LinkPort) : (s.setLink x v).climate = s.climate := rfl
@[simp] theorem Ctl.setLink_cat (s : Ctl) (x : Link) (v : LinkPort) : (s.setLink x v).cat = s.cat := rfl
@[simp] theorem Ctl.setLink_dicts (s : Ctl) (x : Link) (v : LinkPort) : (s.setLink x v).dicts = s.dicts := rfl
@[simp] theorem Ctl.setLink_chans (s : Ctl) (x : Link) (v : LinkPort) : (s.setLink x v).chans = s.chans := rfl
@[simp] theorem Ctl.setLink_trans (s : Ctl) (x : Link) (v : LinkPort) : (s.setLink x v).trans = s.trans := rfl
@[simp] theorem Ctl.setLink_verify (s : Ctl) (x : Link) (v : LinkPort) : (s.setLink x v).verify = s.verify := rfl
@[simp] theorem Ctl.setLink_restore (s : Ctl) (x : Link) (v : LinkPort) : (s.setLink x v).restore = s.restore := rfl
@[simp] theorem Ctl.setLink_store (s : Ctl) (x : Link) (v : LinkPort) : (s.setLink x v).store = s.store := rfl
@[simp] theorem Ctl.setLink_links (s : Ctl) (x : Link) (v : LinkPort) : (s.setLink x v).links = s.links.set x v := rfl
@[simp] theorem Ctl.setLink_panel (s : Ctl) (x : Link) (v : LinkPort) : (s.setLink x v).panel = s.panel := rfl
@[simp] theorem Ctl.setLink_inv_elements (s : Ctl) (x : Link) (v : LinkPort) : (s.setLink x v).inv.elements = s.inv.elements := rfl
@[simp] theorem Ctl.setLink_inv_protect (s : Ctl) (x : Link) (v : LinkPort) : (s.setLink x v).inv.protect = s.inv.protect := rfl
@[simp] theorem Ctl.setLink_inv_doors (s : Ctl) (x : Link) (v : LinkPort) : (s.setLink x v).inv.doors = s.inv.doors := rfl
@[simp] theorem Ctl.setLink_inv_mail (s : Ctl) (x : Link) (v : LinkPort) : (s.setLink x v).inv.mail = s.inv.mail := rfl
@[simp] theorem Ctl.setLink_inv_key (s : Ctl) (x : Link) (v : LinkPort) : (s.setLink x v).inv.key = s.inv.key := rfl
@[simp] theorem Ctl.setLink_elem (s : Ctl) (x : Link) (v : LinkPort) (e : Element) : (s.setLink x v).elem e = s.elem e := rfl
@[simp] theorem Ctl.setLink_door (s : Ctl) (x : Link) (v : LinkPort) (m : Mag) : (s.setLink x v).door m = s.door m := rfl
@[simp] theorem Ctl.setLink_chan (s : Ctl) (x : Link) (v : LinkPort) (c : Chan) : (s.setLink x v).chan c = s.chan c := rfl
@[simp] theorem Ctl.setLink_tr (s : Ctl) (x : Link) (v : LinkPort) (c : Chan) : (s.setLink x v).tr c = s.tr c := rfl
@[simp] theorem Ctl.setLink_session (s : Ctl) (x : Link) (v : LinkPort) (c : Chan) : (s.setLink x v).session c = s.session c := rfl

end Sys2Proof.Machine
end

