-- ==== Sys2Proof/Laws/Ports.lean ====
section
/-! SUPPORT. What taking, answering, notifying and sending do: the three cases of taking a request, and the blocks that the ports' operations leave as they are. -/

namespace Sys2Proof.Machine

/-! ## Taking a request (R176, R181) -/

theorem Ctl.takeRequest_permitted {s : State} {p : Requester} {q : QueuedReq} {r : Req} (f : Nat → Ctl → Ctl) (h : AtHead s p q r) (hp : r.permitted p = true) :
    s.ctl.takeRequest p r f = f q.tag (s.ctl.popRequest p) := by
  simp [Ctl.takeRequest, h.1, h.2, hp]

theorem Ctl.takeRequest_forbidden {s : State} {p : Requester} {q : QueuedReq} {r : Req} (f : Nat → Ctl → Ctl) (h : AtHead s p q r) (hp : r.permitted p = false) :
    s.ctl.takeRequest p r f = s.ctl.afterAnswer p q .notPermitted := by
  simp [Ctl.takeRequest, h.1, h.2, hp, Ctl.afterAnswer]

/-- A request that does not stand at the head of the port's queue is not taken. -/
theorem Ctl.takeRequest_absent {s : Ctl} {p : Requester} {r : Req} (f : Nat → Ctl → Ctl)
    (h : ∀ q, s.headRequest p = some q → Req.decode q.code q.args ≠ some r) : s.takeRequest p r f = s := by
  simp only [Ctl.takeRequest]
  split
  · rename_i q hq
    simp [h q hq]
  · rfl

/-! ## Blocks the ports' operations leave -/

/-! ### popRequest -/

@[simp] theorem Ctl.popRequest_inv (s : Ctl) (p : Requester) : (s.popRequest p).inv = s.inv := by cases p <;> rfl
@[simp] theorem Ctl.popRequest_picker (s : Ctl) (p : Requester) : (s.popRequest p).picker = s.picker := by cases p <;> rfl
@[simp] theorem Ctl.popRequest_climate (s : Ctl) (p : Requester) : (s.popRequest p).climate = s.climate := by cases p <;> rfl
@[simp] theorem Ctl.popRequest_cat (s : Ctl) (p : Requester) : (s.popRequest p).cat = s.cat := by cases p <;> rfl
@[simp] theorem Ctl.popRequest_dicts (s : Ctl) (p : Requester) : (s.popRequest p).dicts = s.dicts := by cases p <;> rfl
@[simp] theorem Ctl.popRequest_chans (s : Ctl) (p : Requester) : (s.popRequest p).chans = s.chans := by cases p <;> rfl
@[simp] theorem Ctl.popRequest_trans (s : Ctl) (p : Requester) : (s.popRequest p).trans = s.trans := by cases p <;> rfl
@[simp] theorem Ctl.popRequest_verify (s : Ctl) (p : Requester) : (s.popRequest p).verify = s.verify := by cases p <;> rfl
@[simp] theorem Ctl.popRequest_restore (s : Ctl) (p : Requester) : (s.popRequest p).restore = s.restore := by cases p <;> rfl
@[simp] theorem Ctl.popRequest_store (s : Ctl) (p : Requester) : (s.popRequest p).store = s.store := by cases p <;> rfl
@[simp] theorem Ctl.popRequest_elem (s : Ctl) (p : Requester) (e : Element) : (s.popRequest p).elem e = s.elem e := by cases p <;> rfl
@[simp] theorem Ctl.popRequest_door (s : Ctl) (p : Requester) (m : Mag) : (s.popRequest p).door m = s.door m := by cases p <;> rfl
@[simp] theorem Ctl.popRequest_chan (s : Ctl) (p : Requester) (c : Chan) : (s.popRequest p).chan c = s.chan c := by cases p <;> rfl
@[simp] theorem Ctl.popRequest_tr (s : Ctl) (p : Requester) (c : Chan) : (s.popRequest p).tr c = s.tr c := by cases p <;> rfl
@[simp] theorem Ctl.popRequest_session (s : Ctl) (p : Requester) (c : Chan) : (s.popRequest p).session c = s.session c := by cases p <;> rfl

/-! ### respond -/

@[simp] theorem Ctl.respond_inv (s : Ctl) (p : Requester) (tag : Nat) (code : Code) (r : Result) : (s.respond p tag code r).inv = s.inv := by cases p <;> rfl
@[simp] theorem Ctl.respond_picker (s : Ctl) (p : Requester) (tag : Nat) (code : Code) (r : Result) : (s.respond p tag code r).picker = s.picker := by cases p <;> rfl
@[simp] theorem Ctl.respond_climate (s : Ctl) (p : Requester) (tag : Nat) (code : Code) (r : Result) : (s.respond p tag code r).climate = s.climate := by cases p <;> rfl
@[simp] theorem Ctl.respond_cat (s : Ctl) (p : Requester) (tag : Nat) (code : Code) (r : Result) : (s.respond p tag code r).cat = s.cat := by cases p <;> rfl
@[simp] theorem Ctl.respond_dicts (s : Ctl) (p : Requester) (tag : Nat) (code : Code) (r : Result) : (s.respond p tag code r).dicts = s.dicts := by cases p <;> rfl
@[simp] theorem Ctl.respond_chans (s : Ctl) (p : Requester) (tag : Nat) (code : Code) (r : Result) : (s.respond p tag code r).chans = s.chans := by cases p <;> rfl
@[simp] theorem Ctl.respond_trans (s : Ctl) (p : Requester) (tag : Nat) (code : Code) (r : Result) : (s.respond p tag code r).trans = s.trans := by cases p <;> rfl
@[simp] theorem Ctl.respond_verify (s : Ctl) (p : Requester) (tag : Nat) (code : Code) (r : Result) : (s.respond p tag code r).verify = s.verify := by cases p <;> rfl
@[simp] theorem Ctl.respond_restore (s : Ctl) (p : Requester) (tag : Nat) (code : Code) (r : Result) : (s.respond p tag code r).restore = s.restore := by cases p <;> rfl
@[simp] theorem Ctl.respond_store (s : Ctl) (p : Requester) (tag : Nat) (code : Code) (r : Result) : (s.respond p tag code r).store = s.store := by cases p <;> rfl
@[simp] theorem Ctl.respond_elem (s : Ctl) (p : Requester) (tag : Nat) (code : Code) (r : Result) (e : Element) : (s.respond p tag code r).elem e = s.elem e := by cases p <;> rfl
@[simp] theorem Ctl.respond_door (s : Ctl) (p : Requester) (tag : Nat) (code : Code) (r : Result) (m : Mag) : (s.respond p tag code r).door m = s.door m := by cases p <;> rfl
@[simp] theorem Ctl.respond_chan (s : Ctl) (p : Requester) (tag : Nat) (code : Code) (r : Result) (c : Chan) : (s.respond p tag code r).chan c = s.chan c := by cases p <;> rfl
@[simp] theorem Ctl.respond_tr (s : Ctl) (p : Requester) (tag : Nat) (code : Code) (r : Result) (c : Chan) : (s.respond p tag code r).tr c = s.tr c := by cases p <;> rfl
@[simp] theorem Ctl.respond_session (s : Ctl) (p : Requester) (tag : Nat) (code : Code) (r : Result) (c : Chan) : (s.respond p tag code r).session c = s.session c := by cases p <;> rfl

/-! ### notify -/

@[simp] theorem Ctl.notify_inv (s : Ctl) (p : Requester) (n : Notice) : (s.notify p n).inv = s.inv := by cases p <;> rfl
@[simp] theorem Ctl.notify_picker (s : Ctl) (p : Requester) (n : Notice) : (s.notify p n).picker = s.picker := by cases p <;> rfl
@[simp] theorem Ctl.notify_climate (s : Ctl) (p : Requester) (n : Notice) : (s.notify p n).climate = s.climate := by cases p <;> rfl
@[simp] theorem Ctl.notify_cat (s : Ctl) (p : Requester) (n : Notice) : (s.notify p n).cat = s.cat := by cases p <;> rfl
@[simp] theorem Ctl.notify_dicts (s : Ctl) (p : Requester) (n : Notice) : (s.notify p n).dicts = s.dicts := by cases p <;> rfl
@[simp] theorem Ctl.notify_chans (s : Ctl) (p : Requester) (n : Notice) : (s.notify p n).chans = s.chans := by cases p <;> rfl
@[simp] theorem Ctl.notify_trans (s : Ctl) (p : Requester) (n : Notice) : (s.notify p n).trans = s.trans := by cases p <;> rfl
@[simp] theorem Ctl.notify_verify (s : Ctl) (p : Requester) (n : Notice) : (s.notify p n).verify = s.verify := by cases p <;> rfl
@[simp] theorem Ctl.notify_restore (s : Ctl) (p : Requester) (n : Notice) : (s.notify p n).restore = s.restore := by cases p <;> rfl
@[simp] theorem Ctl.notify_store (s : Ctl) (p : Requester) (n : Notice) : (s.notify p n).store = s.store := by cases p <;> rfl
@[simp] theorem Ctl.notify_elem (s : Ctl) (p : Requester) (n : Notice) (e : Element) : (s.notify p n).elem e = s.elem e := by cases p <;> rfl
@[simp] theorem Ctl.notify_door (s : Ctl) (p : Requester) (n : Notice) (m : Mag) : (s.notify p n).door m = s.door m := by cases p <;> rfl
@[simp] theorem Ctl.notify_chan (s : Ctl) (p : Requester) (n : Notice) (c : Chan) : (s.notify p n).chan c = s.chan c := by cases p <;> rfl
@[simp] theorem Ctl.notify_tr (s : Ctl) (p : Requester) (n : Notice) (c : Chan) : (s.notify p n).tr c = s.tr c := by cases p <;> rfl
@[simp] theorem Ctl.notify_session (s : Ctl) (p : Requester) (n : Notice) (c : Chan) : (s.notify p n).session c = s.session c := by cases p <;> rfl

/-! ### notifyOpt -/

@[simp] theorem Ctl.notifyOpt_inv (s : Ctl) (p : Option Requester) (n : Notice) : (s.notifyOpt p n).inv = s.inv := by rcases p with _ | _ | _ <;> rfl
@[simp] theorem Ctl.notifyOpt_picker (s : Ctl) (p : Option Requester) (n : Notice) : (s.notifyOpt p n).picker = s.picker := by rcases p with _ | _ | _ <;> rfl
@[simp] theorem Ctl.notifyOpt_climate (s : Ctl) (p : Option Requester) (n : Notice) : (s.notifyOpt p n).climate = s.climate := by rcases p with _ | _ | _ <;> rfl
@[simp] theorem Ctl.notifyOpt_cat (s : Ctl) (p : Option Requester) (n : Notice) : (s.notifyOpt p n).cat = s.cat := by rcases p with _ | _ | _ <;> rfl
@[simp] theorem Ctl.notifyOpt_dicts (s : Ctl) (p : Option Requester) (n : Notice) : (s.notifyOpt p n).dicts = s.dicts := by rcases p with _ | _ | _ <;> rfl
@[simp] theorem Ctl.notifyOpt_chans (s : Ctl) (p : Option Requester) (n : Notice) : (s.notifyOpt p n).chans = s.chans := by rcases p with _ | _ | _ <;> rfl
@[simp] theorem Ctl.notifyOpt_trans (s : Ctl) (p : Option Requester) (n : Notice) : (s.notifyOpt p n).trans = s.trans := by rcases p with _ | _ | _ <;> rfl
@[simp] theorem Ctl.notifyOpt_verify (s : Ctl) (p : Option Requester) (n : Notice) : (s.notifyOpt p n).verify = s.verify := by rcases p with _ | _ | _ <;> rfl
@[simp] theorem Ctl.notifyOpt_restore (s : Ctl) (p : Option Requester) (n : Notice) : (s.notifyOpt p n).restore = s.restore := by rcases p with _ | _ | _ <;> rfl
@[simp] theorem Ctl.notifyOpt_store (s : Ctl) (p : Option Requester) (n : Notice) : (s.notifyOpt p n).store = s.store := by rcases p with _ | _ | _ <;> rfl
@[simp] theorem Ctl.notifyOpt_elem (s : Ctl) (p : Option Requester) (n : Notice) (e : Element) : (s.notifyOpt p n).elem e = s.elem e := by rcases p with _ | _ | _ <;> rfl
@[simp] theorem Ctl.notifyOpt_door (s : Ctl) (p : Option Requester) (n : Notice) (m : Mag) : (s.notifyOpt p n).door m = s.door m := by rcases p with _ | _ | _ <;> rfl
@[simp] theorem Ctl.notifyOpt_chan (s : Ctl) (p : Option Requester) (n : Notice) (c : Chan) : (s.notifyOpt p n).chan c = s.chan c := by rcases p with _ | _ | _ <;> rfl
@[simp] theorem Ctl.notifyOpt_tr (s : Ctl) (p : Option Requester) (n : Notice) (c : Chan) : (s.notifyOpt p n).tr c = s.tr c := by rcases p with _ | _ | _ <;> rfl
@[simp] theorem Ctl.notifyOpt_session (s : Ctl) (p : Option Requester) (n : Notice) (c : Chan) : (s.notifyOpt p n).session c = s.session c := by rcases p with _ | _ | _ <;> rfl

/-! ### notifyLink -/

@[simp] theorem Ctl.notifyLink_inv (s : Ctl) (l : Link) (n : Notice) : (s.notifyLink l n).inv = s.inv := rfl
@[simp] theorem Ctl.notifyLink_picker (s : Ctl) (l : Link) (n : Notice) : (s.notifyLink l n).picker = s.picker := rfl
@[simp] theorem Ctl.notifyLink_climate (s : Ctl) (l : Link) (n : Notice) : (s.notifyLink l n).climate = s.climate := rfl
@[simp] theorem Ctl.notifyLink_cat (s : Ctl) (l : Link) (n : Notice) : (s.notifyLink l n).cat = s.cat := rfl
@[simp] theorem Ctl.notifyLink_dicts (s : Ctl) (l : Link) (n : Notice) : (s.notifyLink l n).dicts = s.dicts := rfl
@[simp] theorem Ctl.notifyLink_chans (s : Ctl) (l : Link) (n : Notice) : (s.notifyLink l n).chans = s.chans := rfl
@[simp] theorem Ctl.notifyLink_trans (s : Ctl) (l : Link) (n : Notice) : (s.notifyLink l n).trans = s.trans := rfl
@[simp] theorem Ctl.notifyLink_verify (s : Ctl) (l : Link) (n : Notice) : (s.notifyLink l n).verify = s.verify := rfl
@[simp] theorem Ctl.notifyLink_restore (s : Ctl) (l : Link) (n : Notice) : (s.notifyLink l n).restore = s.restore := rfl
@[simp] theorem Ctl.notifyLink_store (s : Ctl) (l : Link) (n : Notice) : (s.notifyLink l n).store = s.store := rfl
@[simp] theorem Ctl.notifyLink_elem (s : Ctl) (l : Link) (n : Notice) (e : Element) : (s.notifyLink l n).elem e = s.elem e := rfl
@[simp] theorem Ctl.notifyLink_door (s : Ctl) (l : Link) (n : Notice) (m : Mag) : (s.notifyLink l n).door m = s.door m := rfl
@[simp] theorem Ctl.notifyLink_chan (s : Ctl) (l : Link) (n : Notice) (c : Chan) : (s.notifyLink l n).chan c = s.chan c := rfl
@[simp] theorem Ctl.notifyLink_tr (s : Ctl) (l : Link) (n : Notice) (c : Chan) : (s.notifyLink l n).tr c = s.tr c := rfl
@[simp] theorem Ctl.notifyLink_session (s : Ctl) (l : Link) (n : Notice) (c : Chan) : (s.notifyLink l n).session c = s.session c := rfl

/-! ### notifyAll -/

@[simp] theorem Ctl.notifyAll_inv (s : Ctl) (n : Notice) : (s.notifyAll n).inv = s.inv := rfl
@[simp] theorem Ctl.notifyAll_picker (s : Ctl) (n : Notice) : (s.notifyAll n).picker = s.picker := rfl
@[simp] theorem Ctl.notifyAll_climate (s : Ctl) (n : Notice) : (s.notifyAll n).climate = s.climate := rfl
@[simp] theorem Ctl.notifyAll_cat (s : Ctl) (n : Notice) : (s.notifyAll n).cat = s.cat := rfl
@[simp] theorem Ctl.notifyAll_dicts (s : Ctl) (n : Notice) : (s.notifyAll n).dicts = s.dicts := rfl
@[simp] theorem Ctl.notifyAll_chans (s : Ctl) (n : Notice) : (s.notifyAll n).chans = s.chans := rfl
@[simp] theorem Ctl.notifyAll_trans (s : Ctl) (n : Notice) : (s.notifyAll n).trans = s.trans := rfl
@[simp] theorem Ctl.notifyAll_verify (s : Ctl) (n : Notice) : (s.notifyAll n).verify = s.verify := rfl
@[simp] theorem Ctl.notifyAll_restore (s : Ctl) (n : Notice) : (s.notifyAll n).restore = s.restore := rfl
@[simp] theorem Ctl.notifyAll_store (s : Ctl) (n : Notice) : (s.notifyAll n).store = s.store := rfl
@[simp] theorem Ctl.notifyAll_elem (s : Ctl) (n : Notice) (e : Element) : (s.notifyAll n).elem e = s.elem e := rfl
@[simp] theorem Ctl.notifyAll_door (s : Ctl) (n : Notice) (m : Mag) : (s.notifyAll n).door m = s.door m := rfl
@[simp] theorem Ctl.notifyAll_chan (s : Ctl) (n : Notice) (c : Chan) : (s.notifyAll n).chan c = s.chan c := rfl
@[simp] theorem Ctl.notifyAll_tr (s : Ctl) (n : Notice) (c : Chan) : (s.notifyAll n).tr c = s.tr c := rfl
@[simp] theorem Ctl.notifyAll_session (s : Ctl) (n : Notice) (c : Chan) : (s.notifyAll n).session c = s.session c := rfl

/-! ### afterAnswer -/

@[simp] theorem Ctl.afterAnswer_inv (s : Ctl) (p : Requester) (q : QueuedReq) (code : Code) (r : Result) : (s.afterAnswer p q code r).inv = s.inv := by cases p <;> rfl
@[simp] theorem Ctl.afterAnswer_picker (s : Ctl) (p : Requester) (q : QueuedReq) (code : Code) (r : Result) : (s.afterAnswer p q code r).picker = s.picker := by cases p <;> rfl
@[simp] theorem Ctl.afterAnswer_climate (s : Ctl) (p : Requester) (q : QueuedReq) (code : Code) (r : Result) : (s.afterAnswer p q code r).climate = s.climate := by cases p <;> rfl
@[simp] theorem Ctl.afterAnswer_cat (s : Ctl) (p : Requester) (q : QueuedReq) (code : Code) (r : Result) : (s.afterAnswer p q code r).cat = s.cat := by cases p <;> rfl
@[simp] theorem Ctl.afterAnswer_dicts (s : Ctl) (p : Requester) (q : QueuedReq) (code : Code) (r : Result) : (s.afterAnswer p q code r).dicts = s.dicts := by cases p <;> rfl
@[simp] theorem Ctl.afterAnswer_chans (s : Ctl) (p : Requester) (q : QueuedReq) (code : Code) (r : Result) : (s.afterAnswer p q code r).chans = s.chans := by cases p <;> rfl
@[simp] theorem Ctl.afterAnswer_trans (s : Ctl) (p : Requester) (q : QueuedReq) (code : Code) (r : Result) : (s.afterAnswer p q code r).trans = s.trans := by cases p <;> rfl
@[simp] theorem Ctl.afterAnswer_verify (s : Ctl) (p : Requester) (q : QueuedReq) (code : Code) (r : Result) : (s.afterAnswer p q code r).verify = s.verify := by cases p <;> rfl
@[simp] theorem Ctl.afterAnswer_restore (s : Ctl) (p : Requester) (q : QueuedReq) (code : Code) (r : Result) : (s.afterAnswer p q code r).restore = s.restore := by cases p <;> rfl
@[simp] theorem Ctl.afterAnswer_store (s : Ctl) (p : Requester) (q : QueuedReq) (code : Code) (r : Result) : (s.afterAnswer p q code r).store = s.store := by cases p <;> rfl
@[simp] theorem Ctl.afterAnswer_elem (s : Ctl) (p : Requester) (q : QueuedReq) (code : Code) (r : Result) (e : Element) : (s.afterAnswer p q code r).elem e = s.elem e := by cases p <;> rfl
@[simp] theorem Ctl.afterAnswer_door (s : Ctl) (p : Requester) (q : QueuedReq) (code : Code) (r : Result) (m : Mag) : (s.afterAnswer p q code r).door m = s.door m := by cases p <;> rfl
@[simp] theorem Ctl.afterAnswer_chan (s : Ctl) (p : Requester) (q : QueuedReq) (code : Code) (r : Result) (c : Chan) : (s.afterAnswer p q code r).chan c = s.chan c := by cases p <;> rfl
@[simp] theorem Ctl.afterAnswer_tr (s : Ctl) (p : Requester) (q : QueuedReq) (code : Code) (r : Result) (c : Chan) : (s.afterAnswer p q code r).tr c = s.tr c := by cases p <;> rfl
@[simp] theorem Ctl.afterAnswer_session (s : Ctl) (p : Requester) (q : QueuedReq) (code : Code) (r : Result) (c : Chan) : (s.afterAnswer p q code r).session c = s.session c := by cases p <;> rfl

/-! ## The transmitter (R177, R178) -/

/-- Where it sends already, or the link is OFFLINE, the transmitter takes nothing. -/
theorem LinkPort.kick_waits {p : LinkPort} (h : p.online = false ∨ p.tx ≠ none) : p.kick = p := by
  rcases h with h | h <;> simp [LinkPort.kick, h]

/-- With nothing else to send, an idle transmitter of an ONLINE link sends the DATA_IN frame that was cut off before every ready one. -/
theorem LinkPort.kick_cut {p : LinkPort} {d : DataIn} (ho : p.online = true) (ht : p.tx = none) (hc : p.creditFrames = []) (hr : p.responses = []) (hn : p.notices = [])
    (h : p.cut = some d) : p.kick = { p with cut := none, lastData := d.chan, tx := some (.data d) } := by
  simp [LinkPort.kick, ho, ht, hc, hr, hn, h]

@[simp] theorem LinkPort.kick_requests (p : LinkPort) : p.kick.requests = p.requests := by
  simp only [LinkPort.kick]
  (repeat' split) <;> rfl
@[simp] theorem LinkPort.kick_offlineTimer (p : LinkPort) : p.kick.offlineTimer = p.offlineTimer := by
  simp only [LinkPort.kick]
  (repeat' split) <;> rfl

/-- The frame being sent is kept: a DATA_IN frame beside the ready ones, none of which it displaces. -/
theorem LinkPort.abandon_cut (p : LinkPort) : p.abandon.cut = match p.tx with
    | some (.data d) => some d
    | _ => p.cut := by
  rcases h : p.tx with _ | _ | _ | _ | _ <;> simp [LinkPort.abandon, h]
@[simp] theorem LinkPort.abandon_tx (p : LinkPort) : p.abandon.tx = none := by
  rcases h : p.tx with _ | _ | _ | _ | _ <;> simp [LinkPort.abandon, h]
@[simp] theorem LinkPort.abandon_data (p : LinkPort) : p.abandon.data = p.data := by
  rcases h : p.tx with _ | _ | _ | _ | _ <;> simp [LinkPort.abandon, h]
@[simp] theorem LinkPort.abandon_requests (p : LinkPort) : p.abandon.requests = p.requests := by
  rcases h : p.tx with _ | _ | _ | _ | _ <;> simp [LinkPort.abandon, h]

/-! ## A link stays ONLINE or OFFLINE -/

@[simp] theorem LinkPort.kick_online (p : LinkPort) : p.kick.online = p.online := by
  simp only [LinkPort.kick]
  (repeat' split) <;> rfl
@[simp] theorem LinkPort.pushNotice_online (p : LinkPort) (n : Notice) : (p.pushNotice n).online = p.online := by
  simp only [LinkPort.pushNotice]
  split <;> simp
@[simp] theorem LinkPort.pushResponse_online (p : LinkPort) (r : Response) : (p.pushResponse r).online = p.online := by simp [LinkPort.pushResponse]
@[simp] theorem Ctl.popRequest_online (s : Ctl) (p : Requester) (l : Link) : ((s.popRequest p).link l).online = (s.link l).online := by
  rcases p with k | _
  · simp only [Ctl.popRequest, Ctl.link_setLink]
    split <;> simp_all
  · rfl
@[simp] theorem Ctl.respond_online (s : Ctl) (p : Requester) (tag : Nat) (code : Code) (r : Result) (l : Link) :
    ((s.respond p tag code r).link l).online = (s.link l).online := by
  rcases p with k | _
  · simp only [Ctl.respond, Ctl.link_setLink]
    split <;> simp_all
  · rfl
@[simp] theorem Ctl.notify_online (s : Ctl) (p : Requester) (n : Notice) (l : Link) : ((s.notify p n).link l).online = (s.link l).online := by
  rcases p with k | _
  · simp only [Ctl.notify, Ctl.link_setLink]
    split <;> simp_all
  · rfl

/-! ## Values read off the blocks -/

@[simp] theorem Ctl.popRequest_slotProtected (s : Ctl) (p : Requester) (e : Element) : (s.popRequest p).slotProtected e = s.slotProtected e := by cases p <;> rfl
@[simp] theorem Ctl.popRequest_magProtected (s : Ctl) (p : Requester) (m : Mag) : (s.popRequest p).magProtected m = s.magProtected m := by cases p <;> rfl
@[simp] theorem Ctl.popRequest_entryProtected (s : Ctl) (p : Requester) (en : Option Entry) : (s.popRequest p).entryProtected en = s.entryProtected en := by cases p <;> rfl
@[simp] theorem Ctl.popRequest_doorBusy (s : Ctl) (p : Requester) (e : Element) : (s.popRequest p).doorBusy e = s.doorBusy e := by cases p <;> rfl
@[simp] theorem Ctl.popRequest_findLabel (s : Ctl) (p : Requester) (l : Label) : (s.popRequest p).findLabel l = s.findLabel l := by cases p <;> rfl
@[simp] theorem Ctl.popRequest_inUse (s : Ctl) (p : Requester) (l : Label) : (s.popRequest p).inUse l = s.inUse l := by cases p <;> rfl
@[simp] theorem Ctl.popRequest_reservedByOther (s : Ctl) (p : Requester) (o : Option Requester) (e : Element) :
    (s.popRequest p).reservedByOther o e = s.reservedByOther o e := by cases p <;> rfl
@[simp] theorem Ctl.popRequest_orderAnswer (s : Ctl) (p r : Requester) (o : Order) : (s.popRequest p).orderAnswer r o = s.orderAnswer r o := by cases p <;> rfl

end Sys2Proof.Machine
end

