-- ==== Sys2Proof/Laws/Standing.lean ====
section
/-! SUPPORT. What no queue, motion, tape or port operation touches: the key, the protect code, the climate, the dictionaries, the verify policies and the
auto-checkpoint setting. One lemma per operation. -/

namespace Sys2Proof.Machine

theorem Ctl.key_standing (s : Ctl) : s.inv.key = s.standing.key := rfl
theorem Ctl.protect_standing (s : Ctl) : s.inv.protect = s.standing.protect := rfl
theorem Ctl.policies_standing (s : Ctl) : s.verify.policies = s.standing.policies := rfl
theorem Ctl.auto_standing (s : Ctl) : s.store.auto = s.standing.auto := rfl
theorem Ctl.climate_standing (s : Ctl) : s.climate = s.standing.climate := rfl
theorem Ctl.dicts_standing (s : Ctl) : s.dicts = s.standing.dicts := rfl

theorem Ctl.setVerify_standing_of (s : Ctl) (v : VerifyUnit) (h : v.policies = s.verify.policies) : (s.setVerify v).standing = s.standing := by
  simp [Ctl.standing, h]
theorem Ctl.setStore_standing_of (s : Ctl) (v : Store) (h : v.auto = s.store.auto) : (s.setStore v).standing = s.standing := by
  simp [Ctl.standing, h]
@[simp] theorem Ctl.setVerify_standing (s : Ctl) (v : VerifyUnit) :
    (s.setVerify v).standing = { s.standing with policies := v.policies } := rfl
@[simp] theorem Ctl.setStore_standing (s : Ctl) (v : Store) : (s.setStore v).standing = { s.standing with auto := v.auto } := rfl

@[simp] theorem Ctl.setElem_standing (s : Ctl) (e : Element) (r : ElementRec) : (Ctl.setElem s e r).standing = s.standing := by rfl
@[simp] theorem Ctl.fill_standing (s : Ctl) (e : Element) (o : Occupancy) (en : Option Entry) : (Ctl.fill s e o en).standing = s.standing := by rfl
@[simp] theorem Ctl.reserveFor_standing (s : Ctl) (e : Element) (p : Option Requester) : (Ctl.reserveFor s e p).standing = s.standing := by rfl
@[simp] theorem Ctl.setChan_standing (s : Ctl) (c : Chan) (ch : Channel) : (Ctl.setChan s c ch).standing = s.standing := by rfl
@[simp] theorem Ctl.setTr_standing (s : Ctl) (c : Chan) (t : Transport) : (Ctl.setTr s c t).standing = s.standing := by rfl
@[simp] theorem Ctl.setLink_standing (s : Ctl) (l : Link) (p : LinkPort) : (Ctl.setLink s l p).standing = s.standing := by rfl
@[simp] theorem Ctl.setDoor_standing (s : Ctl) (m : Mag) (d : Door) : (Ctl.setDoor s m d).standing = s.standing := by rfl
@[simp] theorem Ctl.setMail_standing (s : Ctl) (m : MailSlot) : (Ctl.setMail s m).standing = s.standing := by rfl
@[simp] theorem Ctl.setPicker_standing (s : Ctl) (p : Picker) : (Ctl.setPicker s p).standing = s.standing := by rfl
@[simp] theorem Ctl.setCat_standing (s : Ctl) (c : Catalog) : (Ctl.setCat s c).standing = s.standing := by rfl
@[simp] theorem Ctl.setRestore_standing (s : Ctl) (r : RestoreUnit) : (Ctl.setRestore s r).standing = s.standing := by rfl
@[simp] theorem Ctl.setPanel_standing (s : Ctl) (p : PanelPort) : (Ctl.setPanel s p).standing = s.standing := by rfl
@[simp] theorem Ctl.setSession_standing (s : Ctl) (c : Chan) (x : Session) : (Ctl.setSession s c x).standing = s.standing := by rfl
@[simp] theorem Ctl.setBank_standing (s : Ctl) (c : Chan) (i : BankIx) (b : Bank) : (Ctl.setBank s c i b).standing = s.standing := by rfl
@[simp] theorem Ctl.notify_standing (s : Ctl) (p : Requester) (n : Notice) : (Ctl.notify s p n).standing = s.standing := by
  simp only [Ctl.notify]
  split <;> simp
@[simp] theorem Ctl.notifyLink_standing (s : Ctl) (l : Link) (n : Notice) : (Ctl.notifyLink s l n).standing = s.standing := by rfl
@[simp] theorem Ctl.notifyOpt_standing (s : Ctl) (p : Option Requester) (n : Notice) : (Ctl.notifyOpt s p n).standing = s.standing := by
  simp only [Ctl.notifyOpt]
  split <;> simp
@[simp] theorem Ctl.notifyAll_standing (s : Ctl) (n : Notice) : (Ctl.notifyAll s n).standing = s.standing := by rfl
@[simp] theorem Ctl.respond_standing (s : Ctl) (p : Requester) (tag : ℕ) (code : Code) (r : Result) : (Ctl.respond s p tag code r).standing = s.standing := by
  simp only [Ctl.respond]
  split <;> simp
@[simp] theorem Ctl.popRequest_standing (s : Ctl) (p : Requester) : (Ctl.popRequest s p).standing = s.standing := by
  simp only [Ctl.popRequest]
  split <;> simp
theorem Ctl.takeRequest_standing (s : Ctl) (p : Requester) (r : Req) (f : Nat → Ctl → Ctl)
    (h : ∀ tag k, (f tag k).standing = k.standing) : (s.takeRequest p r f).standing = s.standing := by
  simp only [Ctl.takeRequest]
  (repeat' split) <;> simp [h]
theorem Store.noteChange_auto (st : Store) : st.noteChange.auto = st.auto := by
  simp only [Store.noteChange]
  split <;> rfl

@[simp] theorem Ctl.changed_standing (s : Ctl) : s.changed.standing = s.standing := by
  simp [Ctl.changed, Store.noteChange_auto]; rfl

theorem Ctl.foldl_standing {α : Type} (f : Ctl → α → Ctl) (h : ∀ s a, (f s a).standing = s.standing) (l : List α) (s : Ctl) :
    (l.foldl f s).standing = s.standing := by
  induction l generalizing s with
  | nil => rfl
  | cons a l ih => simp [ih, h]
@[simp] theorem Ctl.startCheckpoint_standing (s : Ctl) (served : List Requester) : (Ctl.startCheckpoint s served).standing = s.standing := by rfl
@[simp] theorem Ctl.askCheckpoint_standing (s : Ctl) (p : Option Requester) : (Ctl.askCheckpoint s p).standing = s.standing := by
  simp only [Ctl.askCheckpoint]
  (repeat' split) <;> simp <;> rfl
@[simp] theorem Ctl.autoCheckpoint_standing (s : Ctl) : (Ctl.autoCheckpoint s).standing = s.standing := by
  simp only [Ctl.autoCheckpoint]
  split <;> simp
@[simp] theorem Ctl.putCat_standing (s : Ctl) (k : Catalog) : (Ctl.putCat s k).standing = s.standing := by
  simp only [Ctl.putCat]
  split <;> simp
@[simp] theorem Ctl.modCart_standing (s : Ctl) (l : Label) (f : Cart → Cart) : (Ctl.modCart s l f).standing = s.standing := by simp [Ctl.modCart]
@[simp] theorem Ctl.modSet_standing (s : Ctl) (id : ℕ) (f : SetRec → SetRec) : (Ctl.modSet s id f).standing = s.standing := by simp [Ctl.modSet]
@[simp] theorem Ctl.setLoc_standing (s : Ctl) (l : Option Label) (loc : Option Element) : (Ctl.setLoc s l loc).standing = s.standing := by
  simp only [Ctl.setLoc]
  split <;> simp
@[simp] theorem Ctl.setCartState_standing (s : Ctl) (l : Label) (st : CartState) : (Ctl.setCartState s l st).standing = s.standing := by simp [Ctl.setCartState]
@[simp] theorem Ctl.addExtent_standing (s : Ctl) (id : ℕ) (x : Extent) : (Ctl.addExtent s id x).standing = s.standing := by simp [Ctl.addExtent]
@[simp] theorem Ctl.place_standing (s : Ctl) (e : Element) (en : Option Entry) : (Ctl.place s e en).standing = s.standing := by rfl
@[simp] theorem Ctl.catalogue_standing (s : Ctl) (l : Label) (e : Element) : (Ctl.catalogue s l e).standing = s.standing := by
  simp only [Ctl.catalogue]
  (repeat' split) <;> simp
theorem Ctl.newLabel_standing (s : Ctl) (e holder : Element) (rd : Option Label) : (s.newLabel e holder rd).1.standing = s.standing := by
  simp only [Ctl.newLabel]
  (repeat' split) <;> simp
@[simp] theorem Ctl.foundAt_standing (s : Ctl) (e : Element) (rd : Option Label) (acclim : Nat) : (s.foundAt e rd acclim).standing = s.standing := by
  simp [Ctl.foundAt, Ctl.newLabel_standing]
@[simp] theorem Ctl.auditElement_standing (s : Ctl) (e : Element) (r : ReadReport) (acclim : ℕ) : (Ctl.auditElement s e r acclim).standing = s.standing := by
  simp only [Ctl.auditElement]
  (repeat' split) <;> simp
@[simp] theorem Ctl.applyFetchLabel_standing (s : Ctl) (src : Element) (rd : LabelRead) (acclim : Nat) :
    (s.applyFetchLabel src rd acclim).standing = s.standing := by
  simp only [Ctl.applyFetchLabel]
  (repeat' split) <;> simp [Ctl.newLabel_standing]
@[simp] theorem Ctl.admitWaiting_standing (s : Ctl) : (Ctl.admitWaiting s).standing = s.standing := by
  simp only [Ctl.admitWaiting]
  (repeat' split) <;> simp
@[simp] theorem Ctl.judgeWarning_standing (s : Ctl) (l : Label) (set : ℕ) (owner : Link) : (Ctl.judgeWarning s l set owner).standing = s.standing := by
  simp only [Ctl.judgeWarning]
  (repeat' split) <;> simp
@[simp] theorem Ctl.setPresent_standing (s : Ctl) (c : Chan) (b : Bool) : (Ctl.setPresent s c b).standing = s.standing := by rfl
@[simp] theorem Ctl.thread_standing (s : Ctl) (c : Chan) (k : Task) : (Ctl.thread s c k).standing = s.standing := by rfl
@[simp] theorem Ctl.locate_standing (s : Ctl) (c : Chan) (pos : ℕ) (k : Task) : (Ctl.locate s c pos k).standing = s.standing := by rfl
@[simp] theorem Ctl.readBlock_standing (s : Ctl) (c : Chan) (k : Task) : (Ctl.readBlock s c k).standing = s.standing := by rfl
@[simp] theorem Ctl.writeBlock_standing (s : Ctl) (c : Chan) (bytes : List Byte) (k : Task) : (Ctl.writeBlock s c bytes k).standing = s.standing := by rfl
@[simp] theorem Ctl.readAt_standing (s : Ctl) (c : Chan) (pos : ℕ) (locate : Task) (read : Task) : (Ctl.readAt s c pos locate read).standing = s.standing := by
  simp only [Ctl.readAt]
  split <;> simp
@[simp] theorem Ctl.bringIn_standing (s : Ctl) (c : Chan) (thread : Task) (locate : Task) (read : Task) : (Ctl.bringIn s c thread locate read).standing = s.standing := by
  simp only [Ctl.bringIn]
  (repeat' split) <;> simp
@[simp] theorem Ctl.markSuspect_standing (s : Ctl) (c : Chan) : (Ctl.markSuspect s c).standing = s.standing := by
  simp only [Ctl.markSuspect]
  split <;> simp
@[simp] theorem Ctl.markUnknown_standing (s : Ctl) (c : Chan) : (Ctl.markUnknown s c).standing = s.standing := by
  simp only [Ctl.markUnknown]
  split <;> simp
@[simp] theorem Ctl.transportFaulted_standing (s : Ctl) (c : Chan) : (Ctl.transportFaulted s c).standing = s.standing := by
  simp only [Ctl.transportFaulted]
  split <;> simp
@[simp] theorem Ctl.mapOrders_standing (s : Ctl) (f : Order → Order) : (Ctl.mapOrders s f).standing = s.standing := by rfl
@[simp] theorem Ctl.pushOrder_standing (s : Ctl) (o : Order) (st : OrderState) : (Ctl.pushOrder s o st).standing = s.standing := by rfl
@[simp] theorem Ctl.enter_standing (s : Ctl) (o : Order) : (Ctl.enter s o).standing = s.standing := by
  simp only [Ctl.enter]
  (repeat' split) <;> simp
@[simp] theorem Ctl.admitFrom_standing (n : Nat) (s : Ctl) : (Ctl.admitFrom n s).standing = s.standing := by
  induction n generalizing s with
  | zero => rfl
  | succ n ih =>
    simp only [Ctl.admitFrom]
    (repeat' split) <;> simp [ih]
@[simp] theorem Ctl.admitHeld_standing (s : Ctl) : (Ctl.admitHeld s).standing = s.standing := by simp [Ctl.admitHeld]
@[simp] theorem Ctl.raiseOrder_standing (s : Ctl) (o : Order) : (Ctl.raiseOrder s o).standing = s.standing := by
  simp only [Ctl.raiseOrder]
  (repeat' split) <;> simp
@[simp] theorem Ctl.leave_standing (s : Ctl) (id : ℕ) : (Ctl.leave s id).standing = s.standing := by simp [Ctl.leave]
@[simp] theorem Ctl.withdraw_standing (s : Ctl) (p : Order → Bool) : (Ctl.withdraw s p).standing = s.standing := by simp [Ctl.withdraw]
@[simp] theorem Ctl.disown_standing (s : Ctl) (by' : Raiser) (unload : Bool) : (Ctl.disown s by' unload).standing = s.standing := by rfl
@[simp] theorem Ctl.raiseHome_standing (s : Ctl) (c : Chan) (p : Option Requester) (by' : Option Raiser) : (Ctl.raiseHome s c p by').standing = s.standing := by
  simp only [Ctl.raiseHome]
  split <;> simp
@[simp] theorem Ctl.unloadHome_standing (s : Ctl) (c : Chan) (p : Option Requester) (by' : Option Raiser) : (Ctl.unloadHome s c p by').standing = s.standing := by
  simp only [Ctl.unloadHome]
  split <;> simp
@[simp] theorem Ctl.clearTransport_standing (s : Ctl) (c : Chan) (p : Requester) (by' : Raiser) : (Ctl.clearTransport s c p by').standing = s.standing := by
  simp only [Ctl.clearTransport]
  (repeat' split) <;> simp
@[simp] theorem Ctl.raiseLoad_standing (s : Ctl) (c : Chan) (l : Label) (p : Requester) (by' : Raiser) (purpose : Purpose) : (Ctl.raiseLoad s c l p by' purpose).standing = s.standing := by simp [Ctl.raiseLoad]
@[simp] theorem Ctl.ejectReady_standing (s : Ctl) (c : Chan) : (Ctl.ejectReady s c).standing = s.standing := by rfl
@[simp] theorem Ctl.failEjectWait_standing (c : Chan) (n : Nat) (s : Ctl) : (Ctl.failEjectWait c n s).standing = s.standing := by
  induction n generalizing s with
  | zero => rfl
  | succ n ih =>
    simp only [Ctl.failEjectWait]
    split <;> simp [ih]
@[simp] theorem Ctl.ejectFailed_standing (s : Ctl) (c : Chan) : (Ctl.ejectFailed s c).standing = s.standing := by simp [Ctl.ejectFailed]
@[simp] theorem Ctl.sendPendingEject_standing (s : Ctl) (c : Chan) : (Ctl.sendPendingEject s c).standing = s.standing := by
  simp only [Ctl.sendPendingEject]
  (repeat' split) <;> simp
@[simp] theorem Ctl.transportReported_standing (s : Ctl) (c : Chan) (st : TransportState) (pos : ℕ) : (Ctl.transportReported s c st pos).standing = s.standing := by simp [Ctl.transportReported]
@[simp] theorem Ctl.modRestores_standing (s : Ctl) (f : RestoreCtx → RestoreCtx) : (Ctl.modRestores s f).standing = s.standing := by rfl
@[simp] theorem Ctl.modRestore_standing (s : Ctl) (id : ℕ) (f : RestoreCtx → RestoreCtx) : (Ctl.modRestore s id f).standing = s.standing := by rfl
@[simp] theorem Ctl.restoreLoad_standing (s : Ctl) (c : Chan) (r : RestoreCtx) : (Ctl.restoreLoad s c r).standing = s.standing := by
  simp only [Ctl.restoreLoad]
  (repeat' split) <;> simp
@[simp] theorem Ctl.restoreClears_standing (s : Ctl) (c : Chan) : (Ctl.restoreClears s c).standing = s.standing := by
  simp only [Ctl.restoreClears]
  (repeat' split) <;> simp
@[simp] theorem Ctl.restoreBegin_standing (s : Ctl) (c : Chan) (id : ℕ) : (Ctl.restoreBegin s c id).standing = s.standing := by
  simp only [Ctl.restoreBegin]
  split <;> simp
@[simp] theorem Ctl.modSession_standing (s : Ctl) (c : Chan) (f : Session → Session) : (Ctl.modSession s c f).standing = s.standing := by
  simp only [Ctl.modSession]
  split <;> simp
@[simp] theorem Ctl.closeBank_standing (s : Ctl) (c : Chan) (i : BankIx) : (Ctl.closeBank s c i).standing = s.standing := by
  simp only [Ctl.closeBank]
  split <;> simp
@[simp] theorem Ctl.startExpander_standing (s : Ctl) (c : Chan) (b : TapeBlock) : (Ctl.startExpander s c b).standing = s.standing := by rfl
@[simp] theorem Ctl.stopExpander_standing (s : Ctl) (c : Chan) : (Ctl.stopExpander s c).standing = s.standing := by rfl
@[simp] theorem Ctl.closeFilling_standing (s : Ctl) (c : Chan) : (Ctl.closeFilling s c).standing = s.standing := by
  simp only [Ctl.closeFilling]
  split <;> simp
@[simp] theorem Ctl.grant_standing (s : Ctl) (c : Chan) : (Ctl.grant s c).standing = s.standing := by
  simp only [Ctl.grant]
  (repeat' split) <;> simp
@[simp] theorem Ctl.dropCredits_standing (s : Ctl) (c : Chan) : (Ctl.dropCredits s c).standing = s.standing := by
  simp only [Ctl.dropCredits]
  split <;> simp
@[simp] theorem Ctl.passChannel_standing (s : Ctl) (c : Chan) : (Ctl.passChannel s c).standing = s.standing := by
  simp only [Ctl.passChannel]
  split <;> simp
@[simp] theorem Ctl.endSession_standing (s : Ctl) (c : Chan) (unload : Bool) : (Ctl.endSession s c unload).standing = s.standing := by
  simp only [Ctl.endSession]
  (repeat' split) <;> simp
@[simp] theorem Ctl.sendSummary_standing (s : Ctl) (c : Chan) (k : Cart) (r : SetRec) (f : SummaryFlag) : (Ctl.sendSummary s c k r f).standing = s.standing := by
  simp only [Ctl.sendSummary]
  split <;> simp
theorem Ctl.trySummary_standing (s : Ctl) (c : Chan) (f : SummaryFlag) {t : Ctl} (h : s.trySummary c f = some t) : t.standing = s.standing := by
  simp only [Ctl.trySummary] at h
  (repeat' split at h) <;> simp at h
  subst h; simp
@[simp] theorem Ctl.finishAbort_standing (s : Ctl) (c : Chan) (summary : Bool) : (Ctl.finishAbort s c summary).standing = s.standing := by
  simp only [Ctl.finishAbort]
  (repeat' split) <;> simp
@[simp] theorem Ctl.abortProceed_standing (s : Ctl) (c : Chan) : (s.abortProceed c).standing = s.standing := by
  simp only [Ctl.abortProceed]
  (repeat' split) <;> try simp
  exact Ctl.trySummary_standing _ _ _ (by assumption)
@[simp] theorem Ctl.abort_standing (s : Ctl) (c : Chan) (reason : Code) (noSummary : Bool) (noUnload : Bool) : (Ctl.abort s c reason noSummary noUnload).standing = s.standing := by
  simp only [Ctl.abort]
  (repeat' split) <;> simp
@[simp] theorem Ctl.sessionsReset_standing (s : Ctl) : (Ctl.sessionsReset s).standing = s.standing := by simp [Ctl.sessionsReset]
@[simp] theorem Ctl.loadChosen_standing (s : Ctl) (c : Chan) (x : Session) (l : Label) : (Ctl.loadChosen s c x l).standing = s.standing := by simp [Ctl.loadChosen]
@[simp] theorem Ctl.choose_standing (s : Ctl) (c : Chan) : (Ctl.choose s c).standing = s.standing := by
  simp only [Ctl.choose]
  (repeat' split) <;> simp
@[simp] theorem Ctl.chooseAgain_standing (s : Ctl) (c : Chan) (unload : Bool) : (Ctl.chooseAgain s c unload).standing = s.standing := by
  simp only [Ctl.chooseAgain]
  (repeat' split) <;> simp
@[simp] theorem Ctl.endOpening_standing (s : Ctl) (c : Chan) (cause : Code) (unload : Bool) : (Ctl.endOpening s c cause unload).standing = s.standing := by
  simp only [Ctl.endOpening]
  split <;> simp
@[simp] theorem Ctl.rechoose_standing (s : Ctl) (c : Chan) : (Ctl.rechoose s c).standing = s.standing := by
  simp only [Ctl.rechoose]
  (repeat' split) <;> simp
@[simp] theorem Ctl.rechooseAll_standing (s : Ctl) : (Ctl.rechooseAll s).standing = s.standing := by simp [Ctl.rechooseAll]
@[simp] theorem Ctl.startCoding_standing (s : Ctl) (c : Chan) : (Ctl.startCoding s c).standing = s.standing := by
  simp only [Ctl.startCoding]
  (repeat' split) <;> simp
@[simp] theorem Ctl.syncClose_standing (s : Ctl) (c : Chan) : (Ctl.syncClose s c).standing = s.standing := by
  simp only [Ctl.syncClose]
  (repeat' split) <;> simp
@[simp] theorem Ctl.syncDone_standing (s : Ctl) (c : Chan) : (Ctl.syncDone s c).standing = s.standing := by
  simp only [Ctl.syncDone]
  (repeat' split) <;> simp
@[simp] theorem Ctl.becomeSuspended_standing (s : Ctl) (c : Chan) (x : Session) (kept : BankIx) (id : ℕ) : (Ctl.becomeSuspended s c x kept id).standing = s.standing := by
  simp only [Ctl.becomeSuspended]
  (repeat' split) <;> simp
@[simp] theorem Ctl.suspendTest_standing (s : Ctl) (c : Chan) : (Ctl.suspendTest s c).standing = s.standing := by
  simp only [Ctl.suspendTest]
  (repeat' split) <;> simp
@[simp] theorem Ctl.closeProceed_standing (s : Ctl) (c : Chan) : (s.closeProceed c).standing = s.standing := by
  simp only [Ctl.closeProceed]
  (repeat' split) <;> try simp
  exact Ctl.trySummary_standing _ _ _ (by assumption)
@[simp] theorem Ctl.judgeChannel_standing (s : Ctl) (c : Chan) : (Ctl.judgeChannel s c).standing = s.standing := by simp [Ctl.judgeChannel]
@[simp] theorem Ctl.enterStreaming_standing (s : Ctl) (c : Chan) : (Ctl.enterStreaming s c).standing = s.standing := by simp [Ctl.enterStreaming]
@[simp] theorem Ctl.beginSpan_standing (s : Ctl) (c : Chan) : (s.beginSpan c).standing = s.standing := by
  simp only [Ctl.beginSpan]
  split
  · split
    · simp
    · split
      · rename_i h
        rw [Ctl.trySummary_standing _ _ _ h]; simp
      · simp
  · rfl
@[simp] theorem Ctl.orderSpan_standing (s : Ctl) (c : Chan) (i : BankIx) : (Ctl.orderSpan s c i).standing = s.standing := by
  simp only [Ctl.orderSpan]
  (repeat' split) <;> simp
@[simp] theorem Ctl.sendData_standing (s : Ctl) (c : Chan) (k : Cart) (r : SetRec) (b : CodedBlock) : (Ctl.sendData s c k r b).standing = s.standing := by
  simp only [Ctl.sendData]
  split <;> simp
@[simp] theorem Ctl.freeBlock_standing (s : Ctl) (c : Chan) (i : BankIx) : (Ctl.freeBlock s c i).standing = s.standing := by rfl
@[simp] theorem Ctl.formatData_standing (s : Ctl) (c : Chan) (b : CodedBlock) : (Ctl.formatData s c b).standing = s.standing := by
  simp only [Ctl.formatData]
  (repeat' split) <;> simp
@[simp] theorem Ctl.coderResult_standing (s : Ctl) (c : Chan) : (Ctl.coderResult s c).standing = s.standing := by
  simp only [Ctl.coderResult]
  (repeat' split) <;> simp
@[simp] theorem Ctl.rewriteRetained_standing (s : Ctl) (c : Chan) : (Ctl.rewriteRetained s c).standing = s.standing := by
  simp only [Ctl.rewriteRetained]
  (repeat' split) <;> simp
@[simp] theorem Ctl.sessionReady_standing (s : Ctl) (c : Chan) : (Ctl.sessionReady s c).standing = s.standing := by
  simp only [Ctl.sessionReady]
  (repeat' split) <;> simp
@[simp] theorem Ctl.startVolumeWrite_standing (s : Ctl) (c : Chan) : (Ctl.startVolumeWrite s c).standing = s.standing := by rfl
@[simp] theorem Ctl.startVolumeCheck_standing (s : Ctl) (c : Chan) : (Ctl.startVolumeCheck s c).standing = s.standing := by simp [Ctl.startVolumeCheck]
@[simp] theorem Ctl.startEndCheck_standing (s : Ctl) (c : Chan) : (Ctl.startEndCheck s c).standing = s.standing := by
  simp only [Ctl.startEndCheck]
  split <;> simp
@[simp] theorem Ctl.beginAppend_standing (s : Ctl) (c : Chan) : (Ctl.beginAppend s c).standing = s.standing := by
  simp only [Ctl.beginAppend]
  (repeat' split) <;> simp
@[simp] theorem Ctl.sessionStart_standing (s : Ctl) (c : Chan) : (Ctl.sessionStart s c).standing = s.standing := by
  simp only [Ctl.sessionStart]
  (repeat' split) <;> simp
@[simp] theorem Ctl.sendVolume_standing (s : Ctl) (c : Chan) : (Ctl.sendVolume s c).standing = s.standing := by
  simp only [Ctl.sendVolume]
  (repeat' split) <;> simp
@[simp] theorem Ctl.spanReady_standing (s : Ctl) (c : Chan) (x : Session) : (Ctl.spanReady s c x).standing = s.standing := by
  simp only [Ctl.spanReady]
  split <;> simp
@[simp] theorem Ctl.prepareFailed_standing (s : Ctl) (c : Chan) (cause : Code) : (Ctl.prepareFailed s c cause).standing = s.standing := by
  simp only [Ctl.prepareFailed]
  (repeat' split) <;> simp
@[simp] theorem Ctl.prepareBroken_standing (s : Ctl) (c : Chan) : (Ctl.prepareBroken s c).standing = s.standing := by
  simp only [Ctl.prepareBroken]
  (repeat' split) <;> simp
@[simp] theorem Ctl.sessionThreaded_standing (s : Ctl) (c : Chan) (tab : Tab) : (Ctl.sessionThreaded s c tab).standing = s.standing := by
  simp only [Ctl.sessionThreaded]
  (repeat' split) <;> simp
@[simp] theorem Ctl.sessionResumed_standing (s : Ctl) (c : Chan) : (Ctl.sessionResumed s c).standing = s.standing := by
  simp only [Ctl.sessionResumed]
  split <;> simp
@[simp] theorem Ctl.sessionVolRead_standing (s : Ctl) (c : Chan) (r : ReadResult) : (Ctl.sessionVolRead s c r).standing = s.standing := by
  simp only [Ctl.sessionVolRead]
  (repeat' split) <;> simp
@[simp] theorem Ctl.sessionEndRead_standing (s : Ctl) (c : Chan) (r : ReadResult) : (Ctl.sessionEndRead s c r).standing = s.standing := by
  simp only [Ctl.sessionEndRead]
  (repeat' split) <;> simp
@[simp] theorem Ctl.sessionLoadFailed_standing (s : Ctl) (c : Chan) (reason : Code) : (Ctl.sessionLoadFailed s c reason).standing = s.standing := by
  simp only [Ctl.sessionLoadFailed]
  (repeat' split) <;> simp
@[simp] theorem Ctl.volumeWritten_standing (s : Ctl) (c : Chan) : (Ctl.volumeWritten s c).standing = s.standing := by
  simp only [Ctl.volumeWritten]
  (repeat' split) <;> simp
@[simp] theorem Ctl.countData_standing (s : Ctl) (x : Session) (l : Label) (b : CodedBlock) : (Ctl.countData s x l b).standing = s.standing := by simp [Ctl.countData]
@[simp] theorem Ctl.dataWritten_standing (s : Ctl) (c : Chan) (i : BankIx) : (Ctl.dataWritten s c i).standing = s.standing := by
  simp only [Ctl.dataWritten]
  (repeat' split) <;> simp
@[simp] theorem Ctl.offerVerify_standing (s : Ctl) (set : ℕ) (owner : Link) : (Ctl.offerVerify s set owner).standing = s.standing := by
  simp only [Ctl.offerVerify]
  (repeat' split) <;> simp <;> rfl
@[simp] theorem Ctl.closeComplete_standing (s : Ctl) (c : Chan) (x : Session) : (Ctl.closeComplete s c x).standing = s.standing := by
  simp only [Ctl.closeComplete]
  (repeat' split) <;> simp
@[simp] theorem Ctl.continuesWritten_standing (s : Ctl) (c : Chan) (x : Session) : (Ctl.continuesWritten s c x).standing = s.standing := by
  simp only [Ctl.continuesWritten]
  (repeat' split) <;> simp
@[simp] theorem Ctl.summaryWritten_standing (s : Ctl) (c : Chan) (f : SummaryFlag) : (Ctl.summaryWritten s c f).standing = s.standing := by
  simp only [Ctl.summaryWritten]
  (repeat' split) <;> simp
@[simp] theorem Ctl.sessionFault_standing (s : Ctl) (c : Chan) (t : Task) (media : Bool) : (Ctl.sessionFault s c t media).standing = s.standing := by
  simp only [Ctl.sessionFault]
  (repeat' split) <;> simp
@[simp] theorem Ctl.endOfMedia_standing (s : Ctl) (c : Chan) (i : BankIx) : (Ctl.endOfMedia s c i).standing = s.standing := by
  simp only [Ctl.endOfMedia]
  (repeat' split) <;> simp
@[simp] theorem Ctl.suspendAsk_standing (s : Ctl) (c : Chan) : (Ctl.suspendAsk s c).standing = s.standing := by
  simp only [Ctl.suspendAsk]
  split <;> simp
@[simp] theorem Ctl.suspendWithdrawn_standing (s : Ctl) (c : Chan) : (Ctl.suspendWithdrawn s c).standing = s.standing := by
  simp only [Ctl.suspendWithdrawn]
  (repeat' split) <;> simp
@[simp] theorem Ctl.sessionResume_standing (s : Ctl) (c : Chan) : (Ctl.sessionResume s c).standing = s.standing := by
  simp only [Ctl.sessionResume]
  (repeat' split) <;> simp
@[simp] theorem Ctl.finishChannel_standing (s : Ctl) (c : Chan) : (Ctl.finishChannel s c).standing = s.standing := by
  simp only [Ctl.finishChannel]
  (repeat' split) <;> simp
@[simp] theorem Ctl.finishDrain_standing (s : Ctl) (c : Chan) : (Ctl.finishDrain s c).standing = s.standing := by
  simp only [Ctl.finishDrain]
  (repeat' split) <;> simp
@[simp] theorem Ctl.finishDrains_standing (s : Ctl) : (Ctl.finishDrains s).standing = s.standing := by simp [Ctl.finishDrains]
@[simp] theorem Ctl.modVerify_standing (s : Ctl) (set : ℕ) (f : VerifyEntry → VerifyEntry) : (Ctl.modVerify s set f).standing = s.standing := by rfl
@[simp] theorem Ctl.dropVerify_standing (s : Ctl) (set : ℕ) : (Ctl.dropVerify s set).standing = s.standing := by rfl
@[simp] theorem Ctl.verifyReport_standing (s : Ctl) (v : VerifyEntry) (o : VerifyOutcome) (reason : Option Code) : (Ctl.verifyReport s v o reason).standing = s.standing := by
  simp only [Ctl.verifyReport]
  split <;> simp
@[simp] theorem Ctl.verifyLeave_standing (s : Ctl) (v : VerifyEntry) (c : Chan) (unload : Bool) (stopped : Bool) : (Ctl.verifyLeave s v c unload stopped).standing = s.standing := by
  simp only [Ctl.verifyLeave]
  split <;> simp
@[simp] theorem Ctl.verifyEnd_standing (s : Ctl) (v : VerifyEntry) (o : VerifyOutcome) (reason : Option Code) (unload : Bool) : (Ctl.verifyEnd s v o reason unload).standing = s.standing := by
  simp only [Ctl.verifyEnd]
  split <;> simp
@[simp] theorem Ctl.verifyStop_standing (s : Ctl) (v : VerifyEntry) (reason : Code) (unload : Bool) : (Ctl.verifyStop s v reason unload).standing = s.standing := by
  simp only [Ctl.verifyStop]
  split <;> simp
@[simp] theorem Ctl.verifyPause_standing (s : Ctl) (v : VerifyEntry) (c : Chan) : (Ctl.verifyPause s v c).standing = s.standing := by
  simp only [Ctl.verifyPause]
  (repeat' split) <;> simp <;> rfl
@[simp] theorem Ctl.verifyAskPause_standing (s : Ctl) (c : Chan) : (Ctl.verifyAskPause s c).standing = s.standing := by
  simp only [Ctl.verifyAskPause]
  (repeat' split) <;> simp
@[simp] theorem Ctl.verifyLoad_standing (s : Ctl) (v : VerifyEntry) (c : Chan) (x : Extent) : (Ctl.verifyLoad s v c x).standing = s.standing := by
  simp only [Ctl.verifyLoad]
  (repeat' split) <;> simp
@[simp] theorem Ctl.verifyHome_standing (s : Ctl) (v : VerifyEntry) (c : Chan) (x : Extent) : (Ctl.verifyHome s v c x).standing = s.standing := by
  simp only [Ctl.verifyHome]
  split <;> simp
@[simp] theorem Ctl.verifyLocate_standing (s : Ctl) (v : VerifyEntry) (c : Chan) (x : Extent) : (Ctl.verifyLocate s v c x).standing = s.standing := by rfl
@[simp] theorem Ctl.verifyGo_standing (c : Chan) (n : Nat) (s : Ctl) : (Ctl.verifyGo c n s).standing = s.standing := by
  induction n generalizing s with
  | zero => rfl
  | succ n ih =>
    simp only [Ctl.verifyGo]
    (repeat' split) <;> simp [ih] <;> rfl
@[simp] theorem Ctl.verifyNext_standing (s : Ctl) (c : Chan) : (Ctl.verifyNext s c).standing = s.standing := by simp [Ctl.verifyNext]
@[simp] theorem Ctl.verifyExtentEnd_standing (s : Ctl) (v : VerifyEntry) (c : Chan) (x : Extent) : (Ctl.verifyExtentEnd s v c x).standing = s.standing := by
  simp only [Ctl.verifyExtentEnd]
  (repeat' split) <;> simp
@[simp] theorem Ctl.verifyContinue_standing (s : Ctl) (c : Chan) : (Ctl.verifyContinue s c).standing = s.standing := by
  simp only [Ctl.verifyContinue]
  (repeat' split) <;> simp
@[simp] theorem Ctl.verifyThreaded_standing (s : Ctl) (c : Chan) : (Ctl.verifyThreaded s c).standing = s.standing := by
  simp only [Ctl.verifyThreaded]
  (repeat' split) <;> simp
@[simp] theorem Ctl.verifyPositioned_standing (s : Ctl) (c : Chan) (read : Task) : (Ctl.verifyPositioned s c read).standing = s.standing := by
  simp only [Ctl.verifyPositioned]
  (repeat' split) <;> simp
@[simp] theorem Ctl.verifyExtentLost_standing (s : Ctl) (c : Chan) : (Ctl.verifyExtentLost s c).standing = s.standing := by
  simp only [Ctl.verifyExtentLost]
  (repeat' split) <;> simp
@[simp] theorem Ctl.verifyVolRead_standing (s : Ctl) (c : Chan) (r : ReadResult) : (Ctl.verifyVolRead s c r).standing = s.standing := by
  simp only [Ctl.verifyVolRead]
  (repeat' split) <;> simp
@[simp] theorem Ctl.verifyJudge_standing (s : Ctl) (v : VerifyEntry) (c : Chan) (b : TapeBlock) (good : Bool) : (Ctl.verifyJudge s v c b good).standing = s.standing := by
  simp only [Ctl.verifyJudge]
  (repeat' split) <;> simp
@[simp] theorem Ctl.verifyRead_standing (s : Ctl) (c : Chan) (r : ReadResult) : (Ctl.verifyRead s c r).standing = s.standing := by
  simp only [Ctl.verifyRead]
  (repeat' split) <;> simp
@[simp] theorem Ctl.verifyExpanded_standing (s : Ctl) (c : Chan) (b : TapeBlock) (d : Option DictSlot) : (Ctl.verifyExpanded s c b d).standing = s.standing := by
  simp only [Ctl.verifyExpanded]
  split <;> simp
@[simp] theorem Ctl.verifyFault_standing (s : Ctl) (c : Chan) (media : Bool) : (Ctl.verifyFault s c media).standing = s.standing := by
  simp only [Ctl.verifyFault]
  (repeat' split) <;> simp
@[simp] theorem Ctl.verifyLoadFailed_standing (s : Ctl) (reason : Code) : (Ctl.verifyLoadFailed s reason).standing = s.standing := by
  simp only [Ctl.verifyLoadFailed]
  split <;> simp
@[simp] theorem Ctl.verifyBegin_standing (s : Ctl) (v : VerifyEntry) (c : Chan) (place : ℕ) : (Ctl.verifyBegin s v c place).standing = s.standing := by simp [Ctl.verifyBegin]
@[simp] theorem Ctl.verifyLook_standing (l : List VerifyEntry) (s : Ctl) : (Ctl.verifyLook l s).standing = s.standing := by
  induction l generalizing s with
  | nil => rfl
  | cons v l ih =>
    simp only [Ctl.verifyLook]
    (repeat' split) <;> simp [ih]
@[simp] theorem Ctl.verifyStart_standing (s : Ctl) : (Ctl.verifyStart s).standing = s.standing := by
  simp only [Ctl.verifyStart]
  split <;> simp
@[simp] theorem Ctl.verifyRejudge_standing (s : Ctl) : (Ctl.verifyRejudge s).standing = s.standing := by
  simp only [Ctl.verifyRejudge]
  (repeat' split) <;> simp
@[simp] theorem Ctl.restoreClaim_standing (s : Ctl) (r : RestoreCtx) (c : Chan) : (Ctl.restoreClaim s r c).standing = s.standing := by rfl
theorem Ctl.restoreTry_standing (s : Ctl) (r : RestoreCtx) {t : Ctl} (h : s.restoreTry r = some t) : t.standing = s.standing := by
  simp only [Ctl.restoreTry] at h
  split at h <;> simp at h <;> subst h <;> simp
@[simp] theorem Ctl.restoreLook_standing (l : List RestoreCtx) (s : Ctl) : (Ctl.restoreLook l s).standing = s.standing := by
  induction l generalizing s with
  | nil => rfl
  | cons r l ih =>
    simp only [Ctl.restoreLook]
    split
    · rename_i h
      rw [ih, Ctl.restoreTry_standing _ _ h]; simp
    · simp [ih]
@[simp] theorem Ctl.dropRestore_standing (s : Ctl) (id : ℕ) : (Ctl.dropRestore s id).standing = s.standing := by rfl
@[simp] theorem Ctl.withdrawData_standing (s : Ctl) (l : Link) (c : Chan) : (Ctl.withdrawData s l c).standing = s.standing := by rfl
@[simp] theorem Ctl.restoreEnd_standing (s : Ctl) (r : RestoreCtx) (o : RestoreOutcome) (reason : Option Code) (unload : Bool) : (Ctl.restoreEnd s r o reason unload).standing = s.standing := by
  simp only [Ctl.restoreEnd]
  (repeat' split) <;> simp
@[simp] theorem Ctl.restoreRefused_standing (s : Ctl) (id : Nat) : (s.restoreRefused id).standing = s.standing := by
  simp only [Ctl.restoreRefused]
  split
  · split
    · rename_i h
      rw [Ctl.restoreTry_standing _ _ h]; simp
    · (repeat' split) <;> simp
  · rfl
@[simp] theorem Ctl.restoreOffer_standing (s : Ctl) (c : Chan) : (Ctl.restoreOffer s c).standing = s.standing := by
  simp only [Ctl.restoreOffer]
  (repeat' split) <;> simp
@[simp] theorem Ctl.beginSkip_standing (s : Ctl) (c : Chan) (r : RestoreCtx) (x : Option Extent) (reason : Code) (lost : Bool) : (Ctl.beginSkip s c r x reason lost).standing = s.standing := by simp [Ctl.beginSkip]
theorem Ctl.tellDamage_standing (s : Ctl) (r : RestoreCtx) (last : Nat) : (s.tellDamage r last).1.standing = s.standing := by
  simp only [Ctl.tellDamage]
  split <;> simp
@[simp] theorem Ctl.restoreSwitch_standing (c : Chan) (n : Nat) (s : Ctl) : (Ctl.restoreSwitch c n s).standing = s.standing := by
  induction n generalizing s with
  | zero => rfl
  | succ n ih =>
    simp only [Ctl.restoreSwitch]
    (repeat' split) <;> simp [ih, Ctl.tellDamage_standing]
@[simp] theorem Ctl.restoreNextExtent_standing (s : Ctl) (c : Chan) : (Ctl.restoreNextExtent s c).standing = s.standing := by
  simp only [Ctl.restoreNextExtent]
  split <;> simp
@[simp] theorem Ctl.seekContinue_standing (s : Ctl) (c : Chan) : (Ctl.seekContinue s c).standing = s.standing := by
  simp only [Ctl.seekContinue]
  (repeat' split) <;> simp
@[simp] theorem Ctl.restoreDamaged_standing (s : Ctl) (c : Chan) (reason : Code) (lost : Bool) : (Ctl.restoreDamaged s c reason lost).standing = s.standing := by
  simp only [Ctl.restoreDamaged]
  (repeat' split) <;> simp
@[simp] theorem Ctl.restoreReadNext_standing (s : Ctl) (c : Chan) : (Ctl.restoreReadNext s c).standing = s.standing := by
  simp only [Ctl.restoreReadNext]
  (repeat' split) <;> simp
@[simp] theorem Ctl.restoreVolRead_standing (s : Ctl) (c : Chan) (res : ReadResult) : (Ctl.restoreVolRead s c res).standing = s.standing := by
  simp only [Ctl.restoreVolRead]
  (repeat' split) <;> simp
@[simp] theorem Ctl.restoreExpand_standing (s : Ctl) (c : Chan) (b : TapeBlock) : (Ctl.restoreExpand s c b).standing = s.standing := by rfl
@[simp] theorem Ctl.searchNext_standing (s : Ctl) (c : Chan) (r : RestoreCtx) : (Ctl.searchNext s c r).standing = s.standing := by
  simp only [Ctl.searchNext]
  (repeat' split) <;> simp
@[simp] theorem Ctl.restoreSearch_standing (s : Ctl) (c : Chan) (r : RestoreCtx) (res : ReadResult) : (Ctl.restoreSearch s c r res).standing = s.standing := by
  simp only [Ctl.restoreSearch]
  (repeat' split) <;> simp
@[simp] theorem Ctl.restoreDeliver_standing (s : Ctl) (c : Chan) (r : RestoreCtx) (res : ReadResult) : (Ctl.restoreDeliver s c r res).standing = s.standing := by
  simp only [Ctl.restoreDeliver]
  (repeat' split) <;> simp
@[simp] theorem Ctl.restoreSeek_standing (s : Ctl) (c : Chan) (r : RestoreCtx) (res : ReadResult) : (Ctl.restoreSeek s c r res).standing = s.standing := by
  simp only [Ctl.restoreSeek]
  (repeat' split) <;> simp
@[simp] theorem Ctl.restoreRead_standing (s : Ctl) (c : Chan) (res : ReadResult) : (Ctl.restoreRead s c res).standing = s.standing := by
  simp only [Ctl.restoreRead]
  (repeat' split) <;> simp
@[simp] theorem Ctl.restoreThreaded_standing (s : Ctl) (c : Chan) : (Ctl.restoreThreaded s c).standing = s.standing := by
  simp only [Ctl.restoreThreaded]
  split <;> simp
@[simp] theorem Ctl.restoreSend_standing (s : Ctl) (c : Chan) (r : RestoreCtx) (b : TapeBlock) (out : List Byte) (off : ℕ) (rec : ℕ) : (Ctl.restoreSend s c r b out off rec).standing = s.standing := by simp [Ctl.restoreSend]
@[simp] theorem Ctl.seekFound_standing (s : Ctl) (c : Chan) (r : RestoreCtx) (b : TapeBlock) (out : List Byte) :
    (s.seekFound c r b out).standing = s.standing := by
  simp only [Ctl.seekFound]
  (repeat' split) <;> simp [Ctl.tellDamage_standing]
@[simp] theorem Ctl.restoreExpanded_standing (s : Ctl) (c : Chan) (b : TapeBlock) (d : Option DictSlot) : (Ctl.restoreExpanded s c b d).standing = s.standing := by
  simp only [Ctl.restoreExpanded]
  (repeat' split) <;> simp
@[simp] theorem Ctl.restoreBlockDone_standing (s : Ctl) (c : Chan) (r : RestoreCtx) : (Ctl.restoreBlockDone s c r).standing = s.standing := by
  simp only [Ctl.restoreBlockDone]
  (repeat' split) <;> simp
@[simp] theorem Ctl.restoreFrameSent_standing (s : Ctl) (l : Link) (d : DataIn) : (Ctl.restoreFrameSent s l d).standing = s.standing := by
  simp only [Ctl.restoreFrameSent]
  (repeat' split) <;> simp
@[simp] theorem Ctl.restoreCredit_standing (s : Ctl) (l : Link) (c : Chan) (n : ℕ) : (Ctl.restoreCredit s l c n).standing = s.standing := by
  simp only [Ctl.restoreCredit]
  (repeat' split) <;> simp
@[simp] theorem Ctl.restoreFault_standing (s : Ctl) (c : Chan) (media : Bool) : (Ctl.restoreFault s c media).standing = s.standing := by
  simp only [Ctl.restoreFault]
  (repeat' split) <;> simp
@[simp] theorem Ctl.restoreLoadFailed_standing (s : Ctl) (c : Chan) (reason : Code) : (Ctl.restoreLoadFailed s c reason).standing = s.standing := by
  simp only [Ctl.restoreLoadFailed]
  split <;> simp
@[simp] theorem Ctl.restoreRejudge_standing (s : Ctl) (c : Chan) : (Ctl.restoreRejudge s c).standing = s.standing := by
  simp only [Ctl.restoreRejudge]
  (repeat' split) <;> simp
@[simp] theorem Ctl.judgeWaiting_standing (s : Ctl) : (Ctl.judgeWaiting s).standing = s.standing := by simp [Ctl.judgeWaiting]
@[simp] theorem Ctl.notifyEach_standing (s : Ctl) (ps : List Requester) (n : Notice) : (s.notifyEach ps n).standing = s.standing :=
  Ctl.foldl_standing _ (fun _ _ => by simp) _ _
@[simp] theorem Ctl.startImageRead_standing (s : Ctl) : (Ctl.startImageRead s).standing = s.standing := by rfl
@[simp] theorem Ctl.startPending_standing (s : Ctl) : (Ctl.startPending s).standing = s.standing := by
  simp only [Ctl.startPending]
  (repeat' split) <;> simp <;> rfl
@[simp] theorem Ctl.afterCheckpoint_standing (s : Ctl) : (Ctl.afterCheckpoint s).standing = s.standing := by
  simp only [Ctl.afterCheckpoint]
  split <;> simp
@[simp] theorem Ctl.checkpointDone_standing (s : Ctl) : (Ctl.checkpointDone s).standing = s.standing := by
  simp only [Ctl.checkpointDone]
  (repeat' split) <;> simp <;> rfl
@[simp] theorem Ctl.checkpointFailed_standing (s : Ctl) : (Ctl.checkpointFailed s).standing = s.standing := by
  simp only [Ctl.checkpointFailed]
  (repeat' split) <;> simp <;> rfl
@[simp] theorem Ctl.modRecovery_standing (s : Ctl) (f : Recovery → Recovery) : (Ctl.modRecovery s f).standing = s.standing := by rfl
@[simp] theorem Ctl.recoveryEnd_standing (s : Ctl) (r : Recovery) (o : RecoverOutcome) (rebuilt left : Nat) (reason : Option Code) (unload : Bool) :
    (s.recoveryEnd r o rebuilt left reason unload).standing = s.standing := by
  simp only [Ctl.recoveryEnd]
  split <;> simp [Ctl.auto_standing] <;> rfl
@[simp] theorem Ctl.recoveryThreaded_standing (s : Ctl) (c : Chan) : (Ctl.recoveryThreaded s c).standing = s.standing := by simp [Ctl.recoveryThreaded]
@[simp] theorem Ctl.recoveryVolRead_standing (s : Ctl) (c : Chan) (res : ReadResult) : (Ctl.recoveryVolRead s c res).standing = s.standing := by
  simp only [Ctl.recoveryVolRead]
  (repeat' split) <;> simp
@[simp] theorem Ctl.recoveryApply_standing (s : Ctl) (r : Recovery) : (s.recoveryApply r).standing = s.standing := by
  simp only [Ctl.recoveryApply]
  rw [Ctl.recoveryEnd_standing, Ctl.foldl_standing _ (fun _ _ => by simp)]
  simp
@[simp] theorem Ctl.recoveryNext_standing (s : Ctl) (c : Chan) (r : Recovery) : (Ctl.recoveryNext s c r).standing = s.standing := by rfl
@[simp] theorem Ctl.recoveryRead_standing (s : Ctl) (c : Chan) (res : ReadResult) : (Ctl.recoveryRead s c res).standing = s.standing := by
  simp only [Ctl.recoveryRead]
  (repeat' split) <;> simp
@[simp] theorem Ctl.recoveryFault_standing (s : Ctl) (c : Chan) (media : Bool) : (Ctl.recoveryFault s c media).standing = s.standing := by
  simp only [Ctl.recoveryFault]
  (repeat' split) <;> simp
@[simp] theorem Ctl.recoveryLoadFailed_standing (s : Ctl) (reason : Code) : (Ctl.recoveryLoadFailed s reason).standing = s.standing := by
  simp only [Ctl.recoveryLoadFailed]
  split <;> simp
@[simp] theorem Ctl.recoveryRejudge_standing (s : Ctl) (c : Chan) : (Ctl.recoveryRejudge s c).standing = s.standing := by
  simp only [Ctl.recoveryRejudge]
  (repeat' split) <;> simp
@[simp] theorem Ctl.rejudgeOn_standing (s : Ctl) (c : Chan) : (Ctl.rejudgeOn s c).standing = s.standing := by
  simp only [Ctl.rejudgeOn]
  split <;> simp
@[simp] theorem Ctl.ejectFault_standing (s : Ctl) (c : Chan) : (Ctl.ejectFault s c).standing = s.standing := by
  simp only [Ctl.ejectFault]
  (repeat' split) <;> simp
@[simp] theorem Ctl.faultFor_standing (s : Ctl) (c : Chan) (k : Task) (media : Bool) : (Ctl.faultFor s c k media).standing = s.standing := by
  simp only [Ctl.faultFor]
  (repeat' split) <;> simp
@[simp] theorem Ctl.answerRefused_standing (s : Ctl) (c : Chan) : (Ctl.answerRefused s c).standing = s.standing := by
  simp only [Ctl.answerRefused]
  split <;> simp
@[simp] theorem Ctl.clearRefused_standing (s : Ctl) : (Ctl.clearRefused s).standing = s.standing := by rfl
@[simp] theorem Ctl.answerAll_standing (n : Nat) (s : Ctl) : (Ctl.answerAll n s).standing = s.standing := by
  induction n generalizing s with
  | zero => simp [Ctl.answerAll]
  | succ n ih =>
    simp only [Ctl.answerAll]
    split <;> simp [ih]
@[simp] theorem Ctl.answerRefusals_standing (s : Ctl) : (Ctl.answerRefusals s).standing = s.standing := by simp [Ctl.answerRefusals]
@[simp] theorem Ctl.reloadCheckpoint_standing (s : Ctl) : (Ctl.reloadCheckpoint s).standing = s.standing := by
  simp only [Ctl.reloadCheckpoint]
  (repeat' split) <;> rfl
@[simp] theorem Ctl.reloadGoesOn_standing (s : Ctl) : (Ctl.reloadGoesOn s).standing = s.standing := by
  simp only [Ctl.reloadGoesOn]
  (repeat' split) <;> simp
@[simp] theorem Ctl.commandEnd_standing (s : Ctl) : (Ctl.commandEnd s).standing = s.standing := by simp [Ctl.commandEnd]
@[simp] theorem Ctl.refuseSuspension_standing (s : Ctl) (c : Chan) : (Ctl.refuseSuspension s c).standing = s.standing := by
  simp only [Ctl.refuseSuspension]
  (repeat' split) <;> simp
@[simp] theorem Ctl.expire_standing (s : Ctl) (set : ℕ) : (Ctl.expire s set).standing = s.standing := by
  simp only [Ctl.expire]
  split <;> simp
@[simp] theorem Ctl.reclaim_standing (s : Ctl) (l : Label) : (Ctl.reclaim s l).standing = s.standing := by simp [Ctl.reclaim]
@[simp] theorem Ctl.forget_standing (s : Ctl) (l : Label) : (Ctl.forget s l).standing = s.standing := by simp [Ctl.forget]
@[simp] theorem Ctl.clearAcclim_standing (s : Ctl) (e : Element) : (Ctl.clearAcclim s e).standing = s.standing := by rfl
@[simp] theorem Ctl.minute_standing (s : Ctl) : (Ctl.minute s).standing = s.standing := by rfl
@[simp] theorem Ctl.doorTest_standing (s : Ctl) (m : Mag) : (Ctl.doorTest s m).standing = s.standing := by
  simp only [Ctl.doorTest]
  split <;> simp
@[simp] theorem Ctl.doorTests_standing (s : Ctl) : (Ctl.doorTests s).standing = s.standing := by simp [Ctl.doorTests]
@[simp] theorem Ctl.doorLocked_standing (s : Ctl) (m : Mag) : (Ctl.doorLocked s m).standing = s.standing := by simp [Ctl.doorLocked]
@[simp] theorem Ctl.notifyAsked_standing (s : Ctl) (asked : PerLink Bool) (n : Notice) : (Ctl.notifyAsked s asked n).standing = s.standing := by
  simp only [Ctl.notifyAsked]
  (repeat' split) <;> simp
@[simp] theorem Ctl.doorRefused_standing (s : Ctl) (m : Mag) (cause : Code) : (Ctl.doorRefused s m cause).standing = s.standing := by simp [Ctl.doorRefused]
@[simp] theorem Ctl.slotsUncertain_standing (s : Ctl) (m : Mag) : (s.slotsUncertain m).standing = s.standing :=
  Ctl.foldl_standing _ (fun _ _ => by simp) _ _
@[simp] theorem Ctl.doorOpened_standing (s : Ctl) (m : Mag) : (Ctl.doorOpened s m).standing = s.standing := by simp [Ctl.doorOpened]
@[simp] theorem Ctl.stopScan_standing (s : Ctl) (m : Mag) : (Ctl.stopScan s m).standing = s.standing := by rfl
@[simp] theorem Ctl.doorSwitchOpened_standing (s : Ctl) (m : Mag) : (Ctl.doorSwitchOpened s m).standing = s.standing := by
  simp only [Ctl.doorSwitchOpened]
  split <;> simp
@[simp] theorem Ctl.doorSwitchShut_standing (s : Ctl) (m : Mag) : (Ctl.doorSwitchShut s m).standing = s.standing := by
  simp only [Ctl.doorSwitchShut]
  split <;> simp
@[simp] theorem Ctl.mailUncertain_standing (s : Ctl) : (Ctl.mailUncertain s).standing = s.standing := by rfl
@[simp] theorem Ctl.releaseImport_standing (s : Ctl) (slot : Option (Fin 24)) (p : Option Requester) : (Ctl.releaseImport s slot p).standing = s.standing := by
  simp only [Ctl.releaseImport]
  (repeat' split) <;> simp
@[simp] theorem Ctl.endImport_standing (s : Ctl) : (Ctl.endImport s).standing = s.standing := by
  simp only [Ctl.endImport]
  (repeat' split) <;> simp
@[simp] theorem Ctl.mailShut_standing (s : Ctl) (o : Order) : (Ctl.mailShut s o).standing = s.standing := by simp [Ctl.mailShut]
@[simp] theorem Ctl.forcedShut_standing (s : Ctl) : (Ctl.forcedShut s).standing = s.standing := by
  simp only [Ctl.forcedShut]
  (repeat' split) <;> simp
@[simp] theorem Ctl.mailOpenExport_standing (s : Ctl) (p : Option Requester) (l : Label) : (Ctl.mailOpenExport s p l).standing = s.standing := by simp [Ctl.mailOpenExport]
@[simp] theorem Ctl.mailSwitchOpened_standing (s : Ctl) : (Ctl.mailSwitchOpened s).standing = s.standing := by
  simp only [Ctl.mailSwitchOpened]
  split <;> simp
@[simp] theorem Ctl.mailSwitchShut_standing (s : Ctl) : (Ctl.mailSwitchShut s).standing = s.standing := by
  simp only [Ctl.mailSwitchShut]
  (repeat' split) <;> first | rfl | simp
@[simp] theorem Ctl.mailCancelled_standing (s : Ctl) (cause : Code) : (Ctl.mailCancelled s cause).standing = s.standing := by
  simp only [Ctl.mailCancelled]
  (repeat' split) <;> simp
@[simp] theorem Ctl.askExpired_standing (s : Ctl) (m : Mag) : (Ctl.askExpired s m).standing = s.standing := by
  simp only [Ctl.askExpired]
  split <;> simp
@[simp] theorem Ctl.openExpired_standing (s : Ctl) (m : Mag) : (Ctl.openExpired s m).standing = s.standing := by
  simp only [Ctl.openExpired]
  split <;> simp
@[simp] theorem Ctl.mailExpired_standing (s : Ctl) : (Ctl.mailExpired s).standing = s.standing := by
  simp only [Ctl.mailExpired]
  split <;> simp
@[simp] theorem Ctl.command_standing (s : Ctl) (k : MotionCmd) (ph : Phase) : (Ctl.command s k ph).standing = s.standing := by rfl
@[simp] theorem Ctl.answered_standing (s : Ctl) : (Ctl.answered s).standing = s.standing := by rfl
@[simp] theorem Ctl.pickerIdle_standing (s : Ctl) : (Ctl.pickerIdle s).standing = s.standing := by rfl
@[simp] theorem Ctl.modOrder_standing (s : Ctl) (id : ℕ) (f : Order → Order) : (Ctl.modOrder s id f).standing = s.standing := by rfl
@[simp] theorem Ctl.mailEnd_standing (s : Ctl) (o : Order) (reason : Option Code) (l : Option Label) : (Ctl.mailEnd s o reason l).standing = s.standing := by
  simp only [Ctl.mailEnd]
  (repeat' split) <;> simp
@[simp] theorem Ctl.loadFailed_standing (s : Ctl) (o : Order) (reason : Code) : (Ctl.loadFailed s o reason).standing = s.standing := by
  simp only [Ctl.loadFailed]
  (repeat' split) <;> simp
@[simp] theorem Ctl.orderFailed_standing (s : Ctl) (o : Order) (reason : Code) (l : Option Label) : (Ctl.orderFailed s o reason l).standing = s.standing := by simp [Ctl.orderFailed]
@[simp] theorem Ctl.loadThread_standing (s : Ctl) (o : Order) (c : Chan) : (Ctl.loadThread s o c).standing = s.standing := by
  simp only [Ctl.loadThread]
  (repeat' split) <;> simp
@[simp] theorem Ctl.loadDone_standing (s : Ctl) (o : Order) (c : Chan) : (Ctl.loadDone s o c).standing = s.standing := by
  simp only [Ctl.loadDone]
  (repeat' split) <;> simp
@[simp] theorem Ctl.presentUnthreaded_standing (s : Ctl) (c : Chan) : (Ctl.presentUnthreaded s c).standing = s.standing := by rfl
@[simp] theorem Ctl.setDown_standing (s : Ctl) (e : Element) (f : Entry → Entry) : (Ctl.setDown s e f).standing = s.standing := by simp [Ctl.setDown]
@[simp] theorem Ctl.orderDone_standing (s : Ctl) (o : Order) (dest : Element) : (Ctl.orderDone s o dest).standing = s.standing := by
  simp only [Ctl.orderDone]
  split <;> simp
@[simp] theorem Ctl.outside_standing (s : Ctl) (p : Cart → Element → Bool) : (Ctl.outside s p).standing = s.standing := by simp [Ctl.outside]
@[simp] theorem Ctl.auditOutside_standing (s : Ctl) (m : Mag) : (Ctl.auditOutside s m).standing = s.standing := by simp [Ctl.auditOutside]
@[simp] theorem Ctl.passOver_standing (s : Ctl) (es : List Element) : (Ctl.passOver s es).standing = s.standing := by rfl
@[simp] theorem Ctl.scanOutside_standing (s : Ctl) : (Ctl.scanOutside s).standing = s.standing := by simp [Ctl.scanOutside]
@[simp] theorem Ctl.scanOver_standing (s : Ctl) (o : Order) : (Ctl.scanOver s o).standing = s.standing := by simp [Ctl.scanOver]
@[simp] theorem Ctl.scanComplete_standing (s : Ctl) (o : Order) : (Ctl.scanComplete s o).standing = s.standing := by simp [Ctl.scanComplete]
@[simp] theorem Ctl.scanDone_standing (s : Ctl) (o : Order) : (Ctl.scanDone s o).standing = s.standing := by simp [Ctl.scanDone]
@[simp] theorem Ctl.scanTransport_standing (s : Ctl) (o : Order) (c : Chan) : (Ctl.scanTransport s o c).standing = s.standing := by
  simp only [Ctl.scanTransport]
  (repeat' split) <;> simp
@[simp] theorem Ctl.scanGripper_standing (s : Ctl) (o : Order) : (Ctl.scanGripper s o).standing = s.standing := by
  simp only [Ctl.scanGripper]
  split <;> simp
@[simp] theorem Ctl.scanNext_standing (s : Ctl) (o : Order) (rest : List Element) : (Ctl.scanNext s o rest).standing = s.standing := by
  simp only [Ctl.scanNext]
  (repeat' split) <;> simp
@[simp] theorem Ctl.scanPutAway_standing (s : Ctl) (o : Order) : (Ctl.scanPutAway s o).standing = s.standing := by
  simp only [Ctl.scanPutAway]
  (repeat' split) <;> simp
@[simp] theorem Ctl.auditDone_standing (s : Ctl) (o : Order) (m : Mag) : (Ctl.auditDone s o m).standing = s.standing := by simp [Ctl.auditDone]
@[simp] theorem Ctl.exportScan_standing (s : Ctl) (p : Requester) (l : Label) (r : ReadReport) : (Ctl.exportScan s p l r).standing = s.standing := by
  simp only [Ctl.exportScan]
  split <;> simp
@[simp] theorem Ctl.scanRead_standing (s : Ctl) (o : Order) (e : Element) (rest : List Element) (r : ReadReport) : (Ctl.scanRead s o e rest r).standing = s.standing := by
  simp only [Ctl.scanRead]
  (repeat' split) <;> simp
@[simp] theorem Ctl.run_standing (s : Ctl) (o : Order) : (Ctl.run s o).standing = s.standing := by rfl
@[simp] theorem Ctl.gripperBack_standing (s : Ctl) (o : Order) : (Ctl.gripperBack s o).standing = s.standing := by
  simp only [Ctl.gripperBack]
  (repeat' split) <;> simp
@[simp] theorem Ctl.start_standing (s : Ctl) (o : Order) : (Ctl.start s o).standing = s.standing := by
  simp only [Ctl.start]
  (repeat' split) <;> simp
@[simp] theorem Ctl.orderStart_standing (s : Ctl) : (Ctl.orderStart s).standing = s.standing := by
  simp only [Ctl.orderStart]
  (repeat' split) <;> simp
@[simp] theorem Ctl.transportFetched_standing (s : Ctl) (e : Element) : (Ctl.transportFetched s e).standing = s.standing := by
  simp only [Ctl.transportFetched]
  split <;> simp
@[simp] theorem Ctl.importFetched_standing (s : Ctl) (rd : LabelRead) : (s.importFetched rd).standing = s.standing := by
  simp [Ctl.importFetched, Ctl.newLabel_standing]
@[simp] theorem Ctl.fetchLabel_standing (s : Ctl) (o : Order) (src : Element) (rd : LabelRead) : (Ctl.fetchLabel s o src rd).standing = s.standing := by
  simp only [Ctl.fetchLabel]
  (repeat' split) <;> simp
@[simp] theorem Ctl.fetched_standing (s : Ctl) (o : Order) (src : Element) (dest : Element) (rd : LabelRead) : (Ctl.fetched s o src dest rd).standing = s.standing := by
  simp only [Ctl.fetched]
  (repeat' split) <;> simp
@[simp] theorem Ctl.fetchedNothing_standing (s : Ctl) (o : Order) (src : Element) : (Ctl.fetchedNothing s o src).standing = s.standing := by simp [Ctl.fetchedNothing]
@[simp] theorem Ctl.settled_standing (s : Ctl) : s.settled.standing = s.standing := by
  simp only [Ctl.settled]
  rw [Ctl.foldl_standing _ (fun _ _ => by simp)]; simp
@[simp] theorem Ctl.putBack_standing (s : Ctl) : (Ctl.putBack s).standing = s.standing := by
  simp only [Ctl.putBack]
  split <;> simp
@[simp] theorem Ctl.lookFor_standing (s : Ctl) (transportHolds : Bool) : (Ctl.lookFor s transportHolds).standing = s.standing := by
  simp only [Ctl.lookFor]
  (repeat' split) <;> simp
@[simp] theorem Ctl.homeDone_standing (s : Ctl) (holding : Bool) (transportHolds : Bool) : (Ctl.homeDone s holding transportHolds).standing = s.standing := by
  simp only [Ctl.homeDone]
  (repeat' split) <;> simp
@[simp] theorem Ctl.homeRead_standing (s : Ctl) (e : Element) (r : ReadReport) : (Ctl.homeRead s e r).standing = s.standing := by
  simp only [Ctl.homeRead]
  split <;> simp
@[simp] theorem Ctl.faultOrder_standing (s : Ctl) (o : Order) (reason : Code) (again : Bool) : (Ctl.faultOrder s o reason again).standing = s.standing := by
  simp only [Ctl.faultOrder]
  (repeat' split) <;> simp
@[simp] theorem Ctl.pickerFault_standing (s : Ctl) (reason : Code) : (Ctl.pickerFault s reason).standing = s.standing := by
  simp only [Ctl.pickerFault]
  split <;> simp
@[simp] theorem Ctl.gripFault_standing (s : Ctl) : (Ctl.gripFault s).standing = s.standing := by
  simp only [Ctl.gripFault]
  (repeat' split) <;> simp
@[simp] theorem Ctl.strayReport_standing (s : Ctl) : (Ctl.strayReport s).standing = s.standing := by
  simp only [Ctl.strayReport]
  split <;> simp
@[simp] theorem Ctl.putBackDone_standing (s : Ctl) (o : Order) : (Ctl.putBackDone s o).standing = s.standing := by
  simp only [Ctl.putBackDone]
  (repeat' split) <;> simp
@[simp] theorem Ctl.putDone_standing (s : Ctl) : (Ctl.putDone s).standing = s.standing := by
  simp only [Ctl.putDone]
  (repeat' split) <;> simp <;> rfl
@[simp] theorem Ctl.importReadDone_standing (s : Ctl) (o : Order) (r : ReadReport) : (Ctl.importReadDone s o r).standing = s.standing := by
  simp only [Ctl.importReadDone]
  split <;> simp
@[simp] theorem Ctl.readDone_standing (s : Ctl) (r : ReadReport) : (Ctl.readDone s r).standing = s.standing := by
  simp only [Ctl.readDone]
  (repeat' split) <;> simp <;> rfl
@[simp] theorem Ctl.askDoor_standing (s : Ctl) (p : Requester) (m : Mag) : (Ctl.askDoor s p m).standing = s.standing := by simp [Ctl.askDoor]
@[simp] theorem Ctl.markGranted_standing (s : Ctl) (m : Mag) (l : Link) : (Ctl.markGranted s m l).standing = s.standing := by rfl
@[simp] theorem Ctl.mailOpenImport_standing (s : Ctl) (p : Requester) (dest : Option (Fin 24)) : (Ctl.mailOpenImport s p dest).standing = s.standing := by
  simp only [Ctl.mailOpenImport]
  split <;> simp
@[simp] theorem Ctl.beginExport_standing (s : Ctl) (p : Requester) (l : Label) (e : Element) : (Ctl.beginExport s p l e).standing = s.standing := by
  simp only [Ctl.beginExport]
  split <;> simp
@[simp] theorem Ctl.beginHoming_standing (s : Ctl) : (Ctl.beginHoming s).standing = s.standing := by rfl
@[simp] theorem Ctl.fetchReport_standing (s : Ctl) (r : LabelRead) : (Ctl.fetchReport s r).standing = s.standing := by
  simp only [Ctl.fetchReport]
  (repeat' split) <;> simp <;> rfl
@[simp] theorem Ctl.fetchEmptyReport_standing (s : Ctl) : (Ctl.fetchEmptyReport s).standing = s.standing := by
  simp only [Ctl.fetchEmptyReport]
  (repeat' split) <;> simp <;> rfl
@[simp] theorem Ctl.putReport_standing (s : Ctl) : (Ctl.putReport s).standing = s.standing := by
  simp only [Ctl.putReport]
  split <;> simp
@[simp] theorem Ctl.readReport_standing (s : Ctl) (r : ReadReport) : (Ctl.readReport s r).standing = s.standing := by
  simp only [Ctl.readReport]
  split <;> simp
@[simp] theorem Ctl.homeReport_standing (s : Ctl) (holding : Bool) (transportHolds : Bool) : (Ctl.homeReport s holding transportHolds).standing = s.standing := by
  simp only [Ctl.homeReport]
  (repeat' split) <;> simp <;> rfl
@[simp] theorem Ctl.gripReport_standing (s : Ctl) : (Ctl.gripReport s).standing = s.standing := by
  simp only [Ctl.gripReport]
  split <;> simp
@[simp] theorem Ctl.blockedReport_standing (s : Ctl) : (Ctl.blockedReport s).standing = s.standing := by
  simp only [Ctl.blockedReport]
  split <;> simp
@[simp] theorem Ctl.commandExpired_standing (s : Ctl) : (Ctl.commandExpired s).standing = s.standing := by
  simp only [Ctl.commandExpired]
  split <;> simp
@[simp] theorem Ctl.beginRestore_standing (s : Ctl) (r : RestoreCtx) : (s.beginRestore r).standing = s.standing := by
  simp only [Ctl.beginRestore]
  split
  · exact Ctl.restoreTry_standing _ _ (by assumption)
  · simp
@[simp] theorem Ctl.creditFrame_standing (s : Ctl) (l : Link) (ch : ℕ) (count : ℕ) : (Ctl.creditFrame s l ch count).standing = s.standing := by
  simp only [Ctl.creditFrame]
  (repeat' split) <;> simp
@[simp] theorem Ctl.stallExpired_standing (s : Ctl) (c : Chan) : (Ctl.stallExpired s c).standing = s.standing := by
  simp only [Ctl.stallExpired]
  (repeat' split) <;> simp
@[simp] theorem Ctl.placeRestores_standing (s : Ctl) : (Ctl.placeRestores s).standing = s.standing := by simp [Ctl.placeRestores]
@[simp] theorem Ctl.requestArrives_standing (s : Ctl) (p : Requester) (q : QueuedReq) : (Ctl.requestArrives s p q).standing = s.standing := by
  simp only [Ctl.requestArrives]
  (repeat' split) <;> simp
@[simp] theorem Ctl.refuseBad_standing (s : Ctl) (p : Requester) : (Ctl.refuseBad s p).standing = s.standing := by
  simp only [Ctl.refuseBad]
  (repeat' split) <;> simp
@[simp] theorem Ctl.kick_standing (s : Ctl) (l : Link) : (Ctl.kick s l).standing = s.standing := by rfl
@[simp] theorem Ctl.frameSent_standing (s : Ctl) (l : Link) : (Ctl.frameSent s l).standing = s.standing := by
  simp only [Ctl.frameSent]
  (repeat' split) <;> simp
@[simp] theorem Ctl.grantFor_standing (s : Ctl) (l : Link) (c : Chan) : (Ctl.grantFor s l c).standing = s.standing := by
  simp only [Ctl.grantFor]
  (repeat' split) <;> simp
@[simp] theorem Ctl.askBack_standing (s : Ctl) (l : Link) (m : Mag) : (Ctl.askBack s l m).standing = s.standing := by
  simp only [Ctl.askBack]
  split <;> simp
@[simp] theorem Ctl.lockGained_standing (s : Ctl) (l : Link) : (Ctl.lockGained s l).standing = s.standing := by
  simp only [Ctl.lockGained]
  split <;> simp
@[simp] theorem Ctl.dropCreditsOf_standing (s : Ctl) (l : Link) (c : Chan) : (Ctl.dropCreditsOf s l c).standing = s.standing := by
  simp only [Ctl.dropCreditsOf]
  (repeat' split) <;> simp
@[simp] theorem Ctl.lockLost_standing (s : Ctl) (l : Link) : (Ctl.lockLost s l).standing = s.standing := by
  simp only [Ctl.lockLost]
  split <;> simp
@[simp] theorem Ctl.beginRecovery_standing (s : Ctl) (p : Requester) (l : Label) (c : Chan) : (Ctl.beginRecovery s p l c).standing = s.standing := by
  simp only [Ctl.beginRecovery]
  (repeat' split) <;> simp <;> rfl
@[simp] theorem Ctl.eraseDone_standing (s : Ctl) : (Ctl.eraseDone s).standing = s.standing := by
  simp only [Ctl.eraseDone]
  (repeat' split) <;> simp <;> rfl
@[simp] theorem Ctl.programDone_standing (s : Ctl) (pageMatches : Bool) (lastPage : Bool) : (Ctl.programDone s pageMatches lastPage).standing = s.standing := by
  simp only [Ctl.programDone]
  (repeat' split) <;> simp <;> rfl
@[simp] theorem Ctl.commitDone_standing (s : Ctl) : (Ctl.commitDone s).standing = s.standing := by
  simp only [Ctl.commitDone]
  split <;> simp
@[simp] theorem Ctl.resetPort_standing (s : Ctl) (l : Link) (cause : ResetCause) : (Ctl.resetPort s l cause).standing = s.standing := by rfl
@[simp] theorem Ctl.dropReservations_standing (s : Ctl) (p : Requester → Bool) : (Ctl.dropReservations s p).standing = s.standing := by rfl
@[simp] theorem Ctl.doorLinkReset_standing (s : Ctl) (l : Link) (m : Mag) : (Ctl.doorLinkReset s l m).standing = s.standing := by
  simp only [Ctl.doorLinkReset]
  (repeat' split) <;> simp
@[simp] theorem Ctl.askAgain_standing (s : Ctl) (l : Link) (m : Mag) : (Ctl.askAgain s l m).standing = s.standing := by
  simp only [Ctl.askAgain]
  split <;> simp
@[simp] theorem Ctl.queueLinkReset_standing (s : Ctl) (l : Link) : (Ctl.queueLinkReset s l).standing = s.standing := by simp [Ctl.queueLinkReset]
@[simp] theorem Ctl.sessionLinkReset_standing (s : Ctl) (l : Link) (c : Chan) : (Ctl.sessionLinkReset s l c).standing = s.standing := by
  simp only [Ctl.sessionLinkReset]
  (repeat' split) <;> simp
@[simp] theorem Ctl.restoreLinkReset_standing (s : Ctl) (l : Link) : (s.restoreLinkReset l).standing = s.standing := by
  simp only [Ctl.restoreLinkReset]
  rw [Ctl.foldl_standing]
  · simp
  · intro s a; split <;> simp
@[simp] theorem Ctl.recoveryLinkReset_standing (s : Ctl) (l : Link) : (Ctl.recoveryLinkReset s l).standing = s.standing := by
  simp only [Ctl.recoveryLinkReset]
  (repeat' split) <;> simp
@[simp] theorem Ctl.verifyLinkReset_standing (s : Ctl) (l : Link) : (s.verifyLinkReset l).standing = s.standing := by
  simp only [Ctl.verifyLinkReset]
  rw [Ctl.foldl_standing]
  intro s a; split <;> simp
@[simp] theorem Ctl.linkReset_standing (s : Ctl) (l : Link) (cause : ResetCause) : (Ctl.linkReset s l cause).standing = s.standing := by simp [Ctl.linkReset]
@[simp] theorem Ctl.offlineExpired_standing (s : Ctl) (l : Link) : (Ctl.offlineExpired s l).standing = s.standing := by
  simp only [Ctl.offlineExpired]
  split <;> simp
@[simp] theorem Ctl.portsReset_standing (s : Ctl) (keep : List Response) (cause : ResetCause) : (Ctl.portsReset s keep cause).standing = s.standing := by simp [Ctl.portsReset]
@[simp] theorem Ctl.removedNotice_standing (s : Ctl) (queued : Bool) (o : Order) : (Ctl.removedNotice s queued o).standing = s.standing := by
  simp only [Ctl.removedNotice]
  split <;> simp
@[simp] theorem Ctl.queueReset_standing (s : Ctl) : s.queueReset.standing = s.standing := by
  simp only [Ctl.queueReset]
  split <;> simp <;> rw [Ctl.foldl_standing _ (fun _ _ => by simp), Ctl.foldl_standing _ (fun _ _ => by simp)] <;> simp
@[simp] theorem Ctl.claimsReset_standing (s : Ctl) : s.claimsReset.standing = s.standing := by
  simp only [Ctl.claimsReset]
  rw [Ctl.foldl_standing _ (fun _ _ => by simp)]; simp
@[simp] theorem Ctl.restoresReset_standing (s : Ctl) : s.restoresReset.standing = s.standing := by
  simp only [Ctl.restoresReset]
  rw [Ctl.foldl_standing]
  intro s a; split <;> simp
@[simp] theorem Ctl.verifyReset_standing (s : Ctl) : s.verifyReset.standing = s.standing := by
  simp only [Ctl.verifyReset]
  rw [Ctl.foldl_standing]
  intro s a; split <;> simp
@[simp] theorem Ctl.recoveryReset_standing (s : Ctl) : (Ctl.recoveryReset s).standing = s.standing := by
  simp only [Ctl.recoveryReset]
  split <;> simp
@[simp] theorem Ctl.activitiesReset_standing (s : Ctl) : s.activitiesReset.standing = s.standing := by simp [Ctl.activitiesReset]
@[simp] theorem Ctl.doorReset_standing (s : Ctl) (m : Mag) : (Ctl.doorReset s m).standing = s.standing := by
  simp only [Ctl.doorReset]
  split <;> simp
@[simp] theorem Ctl.transportReset_standing (s : Ctl) (c : Chan) : (Ctl.transportReset s c).standing = s.standing := by
  simp only [Ctl.transportReset]
  split <;> simp
@[simp] theorem Ctl.withoutLost_standing (s : Ctl) : (Ctl.withoutLost s).standing = s.standing := by rfl
@[simp] theorem Ctl.faultAtPowerUp_standing (s : Ctl) (c : Chan) : (Ctl.faultAtPowerUp s c).standing = s.standing := by
  simp only [Ctl.faultAtPowerUp]
  split <;> simp
@[simp] theorem Ctl.createSet_standing (s : Ctl) (owner : Link) (dict : ℕ) (ret : ℕ) (today : ℕ) : (Ctl.createSet s owner dict ret today).standing = s.standing := by simp [Ctl.createSet]
@[simp] theorem Ctl.beginSession_standing (s : Ctl) (c : Chan) (x : Session) : (Ctl.beginSession s c x).standing = s.standing := by
  simp only [Ctl.beginSession]
  split <;> simp
@[simp] theorem Ctl.beginSync_standing (s : Ctl) (c : Chan) : (Ctl.beginSync s c).standing = s.standing := by simp [Ctl.beginSync]
@[simp] theorem Ctl.beginClose_standing (s : Ctl) (c : Chan) : (Ctl.beginClose s c).standing = s.standing := by simp [Ctl.beginClose]
@[simp] theorem Ctl.closeIfFull_standing (s : Ctl) (c : Chan) (i : BankIx) : (Ctl.closeIfFull s c i).standing = s.standing := by
  simp only [Ctl.closeIfFull]
  split <;> simp
@[simp] theorem Ctl.placeData_standing (s : Ctl) (c : Chan) (kept : Option BankIx) (bytes : List Byte) (eor : Bool) : (Ctl.placeData s c kept bytes eor).standing = s.standing := by
  simp only [Ctl.placeData]
  (repeat' split) <;> simp
@[simp] theorem Ctl.dataFrame_standing (s : Ctl) (l : Link) (c : Chan) (eor : Bool) (bytes : List Byte) : (Ctl.dataFrame s l c eor bytes).standing = s.standing := by
  simp only [Ctl.dataFrame]
  (repeat' split) <;> simp
@[simp] theorem Ctl.linkDamaged_standing (s : Ctl) (l : Link) : (s.linkDamaged l).standing = s.standing := by
  simp only [Ctl.linkDamaged]
  rw [Ctl.foldl_standing]
  intro s a; (repeat' split) <;> simp
@[simp] theorem Ctl.dataOut_standing (s : Ctl) (l : Link) (ch : ℕ) (flags : ℕ) (payload : List Byte) : (Ctl.dataOut s l ch flags payload).standing = s.standing := by
  simp only [Ctl.dataOut]
  (repeat' split) <;> simp
@[simp] theorem Ctl.frameDamaged_standing (s : Ctl) (p : Requester) : (Ctl.frameDamaged s p).standing = s.standing := by
  simp only [Ctl.frameDamaged]
  (repeat' split) <;> simp
@[simp] theorem Ctl.coderReport_standing (s : Ctl) (c : Chan) : (Ctl.coderReport s c).standing = s.standing := by simp [Ctl.coderReport]
@[simp] theorem Ctl.expanderDone_standing (s : Ctl) (c : Chan) : (Ctl.expanderDone s c).standing = s.standing := by
  simp only [Ctl.expanderDone]
  (repeat' split) <;> simp
@[simp] theorem Ctl.needExpired_standing (s : Ctl) (c : Chan) : (Ctl.needExpired s c).standing = s.standing := by
  simp only [Ctl.needExpired]
  (repeat' split) <;> simp
@[simp] theorem Ctl.writeTab_standing (s : Ctl) (c : Chan) (t : TabReport) : (Ctl.writeTab s c t).standing = s.standing := by rfl
@[simp] theorem Ctl.threadedFor_standing (s : Ctl) (c : Chan) (k : Task) (tab : Tab) : (Ctl.threadedFor s c k tab).standing = s.standing := by
  simp only [Ctl.threadedFor]
  split <;> simp
@[simp] theorem Ctl.threadedReport_standing (s : Ctl) (c : Chan) (t : TabReport) : (Ctl.threadedReport s c t).standing = s.standing := by
  simp only [Ctl.threadedReport]
  (repeat' split) <;> simp
@[simp] theorem Ctl.ejectedReport_standing (s : Ctl) (c : Chan) : (Ctl.ejectedReport s c).standing = s.standing := by
  simp only [Ctl.ejectedReport]
  split <;> simp
@[simp] theorem Ctl.writeInHand_standing (s : Ctl) (c : Chan) (i : BankIx) : (Ctl.writeInHand s c i).standing = s.standing := by
  simp only [Ctl.writeInHand]
  (repeat' split) <;> simp
@[simp] theorem Ctl.summaryRefused_standing (s : Ctl) (c : Chan) (f : SummaryFlag) : (Ctl.summaryRefused s c f).standing = s.standing := by
  simp only [Ctl.summaryRefused]
  split <;> simp
@[simp] theorem Ctl.writeSummary_standing (s : Ctl) (c : Chan) (f : SummaryFlag) : (Ctl.writeSummary s c f).standing = s.standing := by
  simp only [Ctl.writeSummary]
  (repeat' split) <;> simp
@[simp] theorem Ctl.sessionReads_standing (s : Ctl) (c : Chan) (k : Task) : (Ctl.sessionReads s c k).standing = s.standing := by
  simp only [Ctl.sessionReads]
  (repeat' split) <;> simp
@[simp] theorem Ctl.positionedFor_standing (s : Ctl) (c : Chan) (k : Task) : (Ctl.positionedFor s c k).standing = s.standing := by
  simp only [Ctl.positionedFor]
  split <;> simp
@[simp] theorem Ctl.located_standing (s : Ctl) (c : Chan) (o : TOrder) (pos : ℕ) : (Ctl.located s c o pos).standing = s.standing := by simp [Ctl.located]
@[simp] theorem Ctl.positionedReport_standing (s : Ctl) (c : Chan) : (Ctl.positionedReport s c).standing = s.standing := by
  simp only [Ctl.positionedReport]
  (repeat' split) <;> simp
@[simp] theorem Ctl.readFor_standing (s : Ctl) (c : Chan) (k : Task) (r : ReadResult) : (Ctl.readFor s c k r).standing = s.standing := by
  simp only [Ctl.readFor]
  split <;> simp
@[simp] theorem Ctl.readAnswered_standing (s : Ctl) (c : Chan) (o : TOrder) (pos : ℕ) (r : ReadResult) : (Ctl.readAnswered s c o pos r).standing = s.standing := by simp [Ctl.readAnswered]
@[simp] theorem Ctl.blockReadReport_standing (s : Ctl) (c : Chan) (bytes : List Byte) : (Ctl.blockReadReport s c bytes).standing = s.standing := by
  simp only [Ctl.blockReadReport]
  split <;> simp
@[simp] theorem Ctl.blockUnreadableReport_standing (s : Ctl) (c : Chan) : (Ctl.blockUnreadableReport s c).standing = s.standing := by
  simp only [Ctl.blockUnreadableReport]
  split <;> simp
@[simp] theorem Ctl.endOfDataReport_standing (s : Ctl) (c : Chan) (recorded : ℕ) : (Ctl.endOfDataReport s c recorded).standing = s.standing := by
  simp only [Ctl.endOfDataReport]
  (repeat' split) <;> simp
@[simp] theorem Ctl.writtenFor_standing (s : Ctl) (c : Chan) (k : Task) : (Ctl.writtenFor s c k).standing = s.standing := by
  simp only [Ctl.writtenFor]
  split <;> simp
@[simp] theorem Ctl.blockWrittenReport_standing (s : Ctl) (c : Chan) : (Ctl.blockWrittenReport s c).standing = s.standing := by
  simp only [Ctl.blockWrittenReport]
  split <;> simp
@[simp] theorem Ctl.endOfMediaReport_standing (s : Ctl) (c : Chan) : (Ctl.endOfMediaReport s c).standing = s.standing := by
  simp only [Ctl.endOfMediaReport]
  (repeat' split) <;> simp
@[simp] theorem Ctl.hardwareFault_standing (s : Ctl) (c : Chan) : (Ctl.hardwareFault s c).standing = s.standing := by simp [Ctl.hardwareFault]
@[simp] theorem Ctl.orderFault_standing (s : Ctl) (c : Chan) (o : TOrder) (k : FaultKind) : (Ctl.orderFault s c o k).standing = s.standing := by
  simp only [Ctl.orderFault]
  split <;> simp
@[simp] theorem Ctl.faultReport_standing (s : Ctl) (c : Chan) (k : FaultKind) : (Ctl.faultReport s c k).standing = s.standing := by
  simp only [Ctl.faultReport]
  split <;> simp
@[simp] theorem Ctl.transportTimeout_standing (s : Ctl) (c : Chan) : (Ctl.transportTimeout s c).standing = s.standing := by
  simp only [Ctl.transportTimeout]
  split <;> simp
@[simp] theorem Ctl.resetDone_standing (s : Ctl) (c : Chan) (r : TransportCondition) : (Ctl.resetDone s c r).standing = s.standing := by
  simp only [Ctl.resetDone]
  (repeat' split) <;> simp
@[simp] theorem Ctl.pushVerify_standing (s : Ctl) (v : VerifyEntry) : (Ctl.pushVerify s v).standing = s.standing := by rfl

end Sys2Proof.Machine
end

