-- ==== Sys2Proof/Laws/Inventory.lean ====
section
/-! SUPPORT. The Inventory Table is touched only by its own operations and the picker's: what queues, sessions, tapes, verifies, restores and recoveries do leaves it as it
is. One lemma per operation. -/

namespace Sys2Proof.Machine
@[simp] theorem Ctl.setSession_inv (s : Ctl) (c : Chan) (x : Session) : (Ctl.setSession s c x).inv = s.inv := by rfl
@[simp] theorem Ctl.setBank_inv (s : Ctl) (c : Chan) (i : BankIx) (b : Bank) : (Ctl.setBank s c i b).inv = s.inv := by rfl
theorem Ctl.takeRequest_inv (s : Ctl) (p : Requester) (r : Req) (f : Nat → Ctl → Ctl)
    (h : ∀ tag k, (f tag k).inv = k.inv) : (s.takeRequest p r f).inv = s.inv := by
  simp only [Ctl.takeRequest]
  (repeat' split) <;> simp [h]
@[simp] theorem Ctl.changed_inv (s : Ctl) : s.changed.inv = s.inv := rfl

theorem Ctl.foldl_inv {α : Type} (f : Ctl → α → Ctl) (h : ∀ s a, (f s a).inv = s.inv) (l : List α) (s : Ctl) :
    (l.foldl f s).inv = s.inv := by
  induction l generalizing s with
  | nil => rfl
  | cons a l ih => simp [ih, h]
@[simp] theorem Ctl.startCheckpoint_inv (s : Ctl) (served : List Requester) : (Ctl.startCheckpoint s served).inv = s.inv := by rfl
@[simp] theorem Ctl.askCheckpoint_inv (s : Ctl) (p : Option Requester) : (Ctl.askCheckpoint s p).inv = s.inv := by
  simp only [Ctl.askCheckpoint]
  split <;> simp
@[simp] theorem Ctl.autoCheckpoint_inv (s : Ctl) : (Ctl.autoCheckpoint s).inv = s.inv := by
  simp only [Ctl.autoCheckpoint]
  split <;> simp
@[simp] theorem Ctl.putCat_inv (s : Ctl) (k : Catalog) : (Ctl.putCat s k).inv = s.inv := by
  simp only [Ctl.putCat]
  split <;> simp
@[simp] theorem Ctl.modCart_inv (s : Ctl) (l : Label) (f : Cart → Cart) : (Ctl.modCart s l f).inv = s.inv := by simp [Ctl.modCart]
@[simp] theorem Ctl.modSet_inv (s : Ctl) (id : ℕ) (f : SetRec → SetRec) : (Ctl.modSet s id f).inv = s.inv := by simp [Ctl.modSet]
@[simp] theorem Ctl.setLoc_inv (s : Ctl) (l : Option Label) (loc : Option Element) : (Ctl.setLoc s l loc).inv = s.inv := by
  simp only [Ctl.setLoc]
  split <;> simp
@[simp] theorem Ctl.setCartState_inv (s : Ctl) (l : Label) (st : CartState) : (Ctl.setCartState s l st).inv = s.inv := by simp [Ctl.setCartState]
@[simp] theorem Ctl.addExtent_inv (s : Ctl) (id : ℕ) (x : Extent) : (Ctl.addExtent s id x).inv = s.inv := by simp [Ctl.addExtent]
@[simp] theorem Ctl.catalogue_inv (s : Ctl) (l : Label) (e : Element) : (Ctl.catalogue s l e).inv = s.inv := by
  simp only [Ctl.catalogue]
  (repeat' split) <;> simp
@[simp] theorem Ctl.admitWaiting_inv (s : Ctl) : (Ctl.admitWaiting s).inv = s.inv := by
  simp only [Ctl.admitWaiting]
  (repeat' split) <;> simp
@[simp] theorem Ctl.judgeWarning_inv (s : Ctl) (l : Label) (set : ℕ) (owner : Link) : (Ctl.judgeWarning s l set owner).inv = s.inv := by
  simp only [Ctl.judgeWarning]
  (repeat' split) <;> simp
@[simp] theorem Ctl.setPresent_inv (s : Ctl) (c : Chan) (b : Bool) : (Ctl.setPresent s c b).inv = s.inv := by rfl
@[simp] theorem Ctl.thread_inv (s : Ctl) (c : Chan) (k : Task) : (Ctl.thread s c k).inv = s.inv := by rfl
@[simp] theorem Ctl.locate_inv (s : Ctl) (c : Chan) (pos : ℕ) (k : Task) : (Ctl.locate s c pos k).inv = s.inv := by rfl
@[simp] theorem Ctl.readBlock_inv (s : Ctl) (c : Chan) (k : Task) : (Ctl.readBlock s c k).inv = s.inv := by rfl
@[simp] theorem Ctl.writeBlock_inv (s : Ctl) (c : Chan) (bytes : List Byte) (k : Task) : (Ctl.writeBlock s c bytes k).inv = s.inv := by rfl
@[simp] theorem Ctl.readAt_inv (s : Ctl) (c : Chan) (pos : ℕ) (locate : Task) (read : Task) : (Ctl.readAt s c pos locate read).inv = s.inv := by
  simp only [Ctl.readAt]
  split <;> simp
@[simp] theorem Ctl.bringIn_inv (s : Ctl) (c : Chan) (thread : Task) (locate : Task) (read : Task) : (Ctl.bringIn s c thread locate read).inv = s.inv := by
  simp only [Ctl.bringIn]
  (repeat' split) <;> simp
@[simp] theorem Ctl.markSuspect_inv (s : Ctl) (c : Chan) : (Ctl.markSuspect s c).inv = s.inv := by
  simp only [Ctl.markSuspect]
  split <;> simp
@[simp] theorem Ctl.markUnknown_inv (s : Ctl) (c : Chan) : (Ctl.markUnknown s c).inv = s.inv := by
  simp only [Ctl.markUnknown]
  split <;> simp
@[simp] theorem Ctl.transportFaulted_inv (s : Ctl) (c : Chan) : (Ctl.transportFaulted s c).inv = s.inv := by
  simp only [Ctl.transportFaulted]
  split <;> simp
@[simp] theorem Ctl.mapOrders_inv (s : Ctl) (f : Order → Order) : (Ctl.mapOrders s f).inv = s.inv := by rfl
@[simp] theorem Ctl.pushOrder_inv (s : Ctl) (o : Order) (st : OrderState) : (Ctl.pushOrder s o st).inv = s.inv := by rfl
@[simp] theorem Ctl.enter_inv (s : Ctl) (o : Order) : (Ctl.enter s o).inv = s.inv := by
  simp only [Ctl.enter]
  (repeat' split) <;> simp
@[simp] theorem Ctl.admitFrom_inv (n : Nat) (s : Ctl) : (Ctl.admitFrom n s).inv = s.inv := by
  induction n generalizing s with
  | zero => rfl
  | succ n ih =>
    simp only [Ctl.admitFrom]
    (repeat' split) <;> simp [ih]
@[simp] theorem Ctl.admitHeld_inv (s : Ctl) : (Ctl.admitHeld s).inv = s.inv := by simp [Ctl.admitHeld]
@[simp] theorem Ctl.raiseOrder_inv (s : Ctl) (o : Order) : (Ctl.raiseOrder s o).inv = s.inv := by
  simp only [Ctl.raiseOrder]
  (repeat' split) <;> simp
@[simp] theorem Ctl.leave_inv (s : Ctl) (id : ℕ) : (Ctl.leave s id).inv = s.inv := by simp [Ctl.leave]
@[simp] theorem Ctl.withdraw_inv (s : Ctl) (p : Order → Bool) : (Ctl.withdraw s p).inv = s.inv := by simp [Ctl.withdraw]
@[simp] theorem Ctl.disown_inv (s : Ctl) (by' : Raiser) (unload : Bool) : (Ctl.disown s by' unload).inv = s.inv := by rfl
@[simp] theorem Ctl.raiseHome_inv (s : Ctl) (c : Chan) (p : Option Requester) (by' : Option Raiser) : (Ctl.raiseHome s c p by').inv = s.inv := by
  simp only [Ctl.raiseHome]
  split <;> simp
@[simp] theorem Ctl.unloadHome_inv (s : Ctl) (c : Chan) (p : Option Requester) (by' : Option Raiser) : (Ctl.unloadHome s c p by').inv = s.inv := by
  simp only [Ctl.unloadHome]
  split <;> simp
@[simp] theorem Ctl.clearTransport_inv (s : Ctl) (c : Chan) (p : Requester) (by' : Raiser) : (Ctl.clearTransport s c p by').inv = s.inv := by
  simp only [Ctl.clearTransport]
  (repeat' split) <;> simp
@[simp] theorem Ctl.raiseLoad_inv (s : Ctl) (c : Chan) (l : Label) (p : Requester) (by' : Raiser) (purpose : Purpose) : (Ctl.raiseLoad s c l p by' purpose).inv = s.inv := by simp [Ctl.raiseLoad]
@[simp] theorem Ctl.ejectReady_inv (s : Ctl) (c : Chan) : (Ctl.ejectReady s c).inv = s.inv := by rfl
@[simp] theorem Ctl.failEjectWait_inv (c : Chan) (n : Nat) (s : Ctl) : (Ctl.failEjectWait c n s).inv = s.inv := by
  induction n generalizing s with
  | zero => rfl
  | succ n ih =>
    simp only [Ctl.failEjectWait]
    split <;> simp [ih]
@[simp] theorem Ctl.ejectFailed_inv (s : Ctl) (c : Chan) : (Ctl.ejectFailed s c).inv = s.inv := by simp [Ctl.ejectFailed]
@[simp] theorem Ctl.sendPendingEject_inv (s : Ctl) (c : Chan) : (Ctl.sendPendingEject s c).inv = s.inv := by
  simp only [Ctl.sendPendingEject]
  (repeat' split) <;> simp
@[simp] theorem Ctl.transportReported_inv (s : Ctl) (c : Chan) (st : TransportState) (pos : ℕ) : (Ctl.transportReported s c st pos).inv = s.inv := by simp [Ctl.transportReported]
@[simp] theorem Ctl.modRestores_inv (s : Ctl) (f : RestoreCtx → RestoreCtx) : (Ctl.modRestores s f).inv = s.inv := by rfl
@[simp] theorem Ctl.modRestore_inv (s : Ctl) (id : ℕ) (f : RestoreCtx → RestoreCtx) : (Ctl.modRestore s id f).inv = s.inv := by rfl
@[simp] theorem Ctl.restoreLoad_inv (s : Ctl) (c : Chan) (r : RestoreCtx) : (Ctl.restoreLoad s c r).inv = s.inv := by
  simp only [Ctl.restoreLoad]
  (repeat' split) <;> simp
@[simp] theorem Ctl.restoreClears_inv (s : Ctl) (c : Chan) : (Ctl.restoreClears s c).inv = s.inv := by
  simp only [Ctl.restoreClears]
  (repeat' split) <;> simp
@[simp] theorem Ctl.restoreBegin_inv (s : Ctl) (c : Chan) (id : ℕ) : (Ctl.restoreBegin s c id).inv = s.inv := by
  simp only [Ctl.restoreBegin]
  split <;> simp
@[simp] theorem Ctl.modSession_inv (s : Ctl) (c : Chan) (f : Session → Session) : (Ctl.modSession s c f).inv = s.inv := by
  simp only [Ctl.modSession]
  split <;> simp
@[simp] theorem Ctl.closeBank_inv (s : Ctl) (c : Chan) (i : BankIx) : (Ctl.closeBank s c i).inv = s.inv := by
  simp only [Ctl.closeBank]
  split <;> simp
@[simp] theorem Ctl.startExpander_inv (s : Ctl) (c : Chan) (b : TapeBlock) : (Ctl.startExpander s c b).inv = s.inv := by rfl
@[simp] theorem Ctl.stopExpander_inv (s : Ctl) (c : Chan) : (Ctl.stopExpander s c).inv = s.inv := by rfl
@[simp] theorem Ctl.closeFilling_inv (s : Ctl) (c : Chan) : (Ctl.closeFilling s c).inv = s.inv := by
  simp only [Ctl.closeFilling]
  split <;> simp
@[simp] theorem Ctl.grant_inv (s : Ctl) (c : Chan) : (Ctl.grant s c).inv = s.inv := by
  simp only [Ctl.grant]
  (repeat' split) <;> simp
@[simp] theorem Ctl.dropCredits_inv (s : Ctl) (c : Chan) : (Ctl.dropCredits s c).inv = s.inv := by
  simp only [Ctl.dropCredits]
  split <;> simp
@[simp] theorem Ctl.passChannel_inv (s : Ctl) (c : Chan) : (Ctl.passChannel s c).inv = s.inv := by
  simp only [Ctl.passChannel]
  split <;> simp
@[simp] theorem Ctl.endSession_inv (s : Ctl) (c : Chan) (unload : Bool) : (Ctl.endSession s c unload).inv = s.inv := by
  simp only [Ctl.endSession]
  (repeat' split) <;> simp
@[simp] theorem Ctl.sendSummary_inv (s : Ctl) (c : Chan) (k : Cart) (r : SetRec) (f : SummaryFlag) : (Ctl.sendSummary s c k r f).inv = s.inv := by
  simp only [Ctl.sendSummary]
  split <;> simp
theorem Ctl.trySummary_inv (s : Ctl) (c : Chan) (f : SummaryFlag) {t : Ctl} (h : s.trySummary c f = some t) : t.inv = s.inv := by
  simp only [Ctl.trySummary] at h
  (repeat' split at h) <;> simp at h
  subst h; simp
@[simp] theorem Ctl.finishAbort_inv (s : Ctl) (c : Chan) (summary : Bool) : (Ctl.finishAbort s c summary).inv = s.inv := by
  simp only [Ctl.finishAbort]
  (repeat' split) <;> simp
@[simp] theorem Ctl.abortProceed_inv (s : Ctl) (c : Chan) : (s.abortProceed c).inv = s.inv := by
  simp only [Ctl.abortProceed]
  (repeat' split) <;> try simp
  exact Ctl.trySummary_inv _ _ _ (by assumption)
@[simp] theorem Ctl.abort_inv (s : Ctl) (c : Chan) (reason : Code) (noSummary : Bool) (noUnload : Bool) : (Ctl.abort s c reason noSummary noUnload).inv = s.inv := by
  simp only [Ctl.abort]
  (repeat' split) <;> simp
@[simp] theorem Ctl.sessionsReset_inv (s : Ctl) : (Ctl.sessionsReset s).inv = s.inv := by simp [Ctl.sessionsReset]
@[simp] theorem Ctl.loadChosen_inv (s : Ctl) (c : Chan) (x : Session) (l : Label) : (Ctl.loadChosen s c x l).inv = s.inv := by simp [Ctl.loadChosen]
@[simp] theorem Ctl.choose_inv (s : Ctl) (c : Chan) : (Ctl.choose s c).inv = s.inv := by
  simp only [Ctl.choose]
  (repeat' split) <;> simp
@[simp] theorem Ctl.chooseAgain_inv (s : Ctl) (c : Chan) (unload : Bool) : (Ctl.chooseAgain s c unload).inv = s.inv := by
  simp only [Ctl.chooseAgain]
  (repeat' split) <;> simp
@[simp] theorem Ctl.endOpening_inv (s : Ctl) (c : Chan) (cause : Code) (unload : Bool) : (Ctl.endOpening s c cause unload).inv = s.inv := by
  simp only [Ctl.endOpening]
  split <;> simp
@[simp] theorem Ctl.rechoose_inv (s : Ctl) (c : Chan) : (Ctl.rechoose s c).inv = s.inv := by
  simp only [Ctl.rechoose]
  (repeat' split) <;> simp
@[simp] theorem Ctl.rechooseAll_inv (s : Ctl) : (Ctl.rechooseAll s).inv = s.inv := by simp [Ctl.rechooseAll]
@[simp] theorem Ctl.startCoding_inv (s : Ctl) (c : Chan) : (Ctl.startCoding s c).inv = s.inv := by
  simp only [Ctl.startCoding]
  (repeat' split) <;> simp
@[simp] theorem Ctl.syncClose_inv (s : Ctl) (c : Chan) : (Ctl.syncClose s c).inv = s.inv := by
  simp only [Ctl.syncClose]
  (repeat' split) <;> simp
@[simp] theorem Ctl.syncDone_inv (s : Ctl) (c : Chan) : (Ctl.syncDone s c).inv = s.inv := by
  simp only [Ctl.syncDone]
  (repeat' split) <;> simp
@[simp] theorem Ctl.becomeSuspended_inv (s : Ctl) (c : Chan) (x : Session) (kept : BankIx) (id : ℕ) : (Ctl.becomeSuspended s c x kept id).inv = s.inv := by
  simp only [Ctl.becomeSuspended]
  (repeat' split) <;> simp
@[simp] theorem Ctl.suspendTest_inv (s : Ctl) (c : Chan) : (Ctl.suspendTest s c).inv = s.inv := by
  simp only [Ctl.suspendTest]
  (repeat' split) <;> simp
@[simp] theorem Ctl.closeProceed_inv (s : Ctl) (c : Chan) : (s.closeProceed c).inv = s.inv := by
  simp only [Ctl.closeProceed]
  (repeat' split) <;> try simp
  exact Ctl.trySummary_inv _ _ _ (by assumption)
@[simp] theorem Ctl.judgeChannel_inv (s : Ctl) (c : Chan) : (Ctl.judgeChannel s c).inv = s.inv := by simp [Ctl.judgeChannel]
@[simp] theorem Ctl.enterStreaming_inv (s : Ctl) (c : Chan) : (Ctl.enterStreaming s c).inv = s.inv := by simp [Ctl.enterStreaming]
@[simp] theorem Ctl.beginSpan_inv (s : Ctl) (c : Chan) : (s.beginSpan c).inv = s.inv := by
  simp only [Ctl.beginSpan]
  split
  · split
    · simp
    · split
      · rename_i h
        rw [Ctl.trySummary_inv _ _ _ h]; simp
      · simp
  · rfl
@[simp] theorem Ctl.orderSpan_inv (s : Ctl) (c : Chan) (i : BankIx) : (Ctl.orderSpan s c i).inv = s.inv := by
  simp only [Ctl.orderSpan]
  (repeat' split) <;> simp
@[simp] theorem Ctl.sendData_inv (s : Ctl) (c : Chan) (k : Cart) (r : SetRec) (b : CodedBlock) : (Ctl.sendData s c k r b).inv = s.inv := by
  simp only [Ctl.sendData]
  split <;> simp
@[simp] theorem Ctl.freeBlock_inv (s : Ctl) (c : Chan) (i : BankIx) : (Ctl.freeBlock s c i).inv = s.inv := by rfl
@[simp] theorem Ctl.formatData_inv (s : Ctl) (c : Chan) (b : CodedBlock) : (Ctl.formatData s c b).inv = s.inv := by
  simp only [Ctl.formatData]
  (repeat' split) <;> simp
@[simp] theorem Ctl.coderResult_inv (s : Ctl) (c : Chan) : (Ctl.coderResult s c).inv = s.inv := by
  simp only [Ctl.coderResult]
  (repeat' split) <;> simp
@[simp] theorem Ctl.rewriteRetained_inv (s : Ctl) (c : Chan) : (Ctl.rewriteRetained s c).inv = s.inv := by
  simp only [Ctl.rewriteRetained]
  (repeat' split) <;> simp
@[simp] theorem Ctl.sessionReady_inv (s : Ctl) (c : Chan) : (Ctl.sessionReady s c).inv = s.inv := by
  simp only [Ctl.sessionReady]
  (repeat' split) <;> simp
@[simp] theorem Ctl.startVolumeWrite_inv (s : Ctl) (c : Chan) : (Ctl.startVolumeWrite s c).inv = s.inv := by rfl
@[simp] theorem Ctl.startVolumeCheck_inv (s : Ctl) (c : Chan) : (Ctl.startVolumeCheck s c).inv = s.inv := by simp [Ctl.startVolumeCheck]
@[simp] theorem Ctl.startEndCheck_inv (s : Ctl) (c : Chan) : (Ctl.startEndCheck s c).inv = s.inv := by
  simp only [Ctl.startEndCheck]
  split <;> simp
@[simp] theorem Ctl.beginAppend_inv (s : Ctl) (c : Chan) : (Ctl.beginAppend s c).inv = s.inv := by
  simp only [Ctl.beginAppend]
  (repeat' split) <;> simp
@[simp] theorem Ctl.sessionStart_inv (s : Ctl) (c : Chan) : (Ctl.sessionStart s c).inv = s.inv := by
  simp only [Ctl.sessionStart]
  (repeat' split) <;> simp
@[simp] theorem Ctl.sendVolume_inv (s : Ctl) (c : Chan) : (Ctl.sendVolume s c).inv = s.inv := by
  simp only [Ctl.sendVolume]
  (repeat' split) <;> simp
@[simp] theorem Ctl.spanReady_inv (s : Ctl) (c : Chan) (x : Session) : (Ctl.spanReady s c x).inv = s.inv := by
  simp only [Ctl.spanReady]
  split <;> simp
@[simp] theorem Ctl.prepareFailed_inv (s : Ctl) (c : Chan) (cause : Code) : (Ctl.prepareFailed s c cause).inv = s.inv := by
  simp only [Ctl.prepareFailed]
  (repeat' split) <;> simp
@[simp] theorem Ctl.prepareBroken_inv (s : Ctl) (c : Chan) : (Ctl.prepareBroken s c).inv = s.inv := by
  simp only [Ctl.prepareBroken]
  (repeat' split) <;> simp
@[simp] theorem Ctl.sessionThreaded_inv (s : Ctl) (c : Chan) (tab : Tab) : (Ctl.sessionThreaded s c tab).inv = s.inv := by
  simp only [Ctl.sessionThreaded]
  (repeat' split) <;> simp
@[simp] theorem Ctl.sessionResumed_inv (s : Ctl) (c : Chan) : (Ctl.sessionResumed s c).inv = s.inv := by
  simp only [Ctl.sessionResumed]
  split <;> simp
@[simp] theorem Ctl.sessionVolRead_inv (s : Ctl) (c : Chan) (r : ReadResult) : (Ctl.sessionVolRead s c r).inv = s.inv := by
  simp only [Ctl.sessionVolRead]
  (repeat' split) <;> simp
@[simp] theorem Ctl.sessionEndRead_inv (s : Ctl) (c : Chan) (r : ReadResult) : (Ctl.sessionEndRead s c r).inv = s.inv := by
  simp only [Ctl.sessionEndRead]
  (repeat' split) <;> simp
@[simp] theorem Ctl.sessionLoadFailed_inv (s : Ctl) (c : Chan) (reason : Code) : (Ctl.sessionLoadFailed s c reason).inv = s.inv := by
  simp only [Ctl.sessionLoadFailed]
  (repeat' split) <;> simp
@[simp] theorem Ctl.volumeWritten_inv (s : Ctl) (c : Chan) : (Ctl.volumeWritten s c).inv = s.inv := by
  simp only [Ctl.volumeWritten]
  (repeat' split) <;> simp
@[simp] theorem Ctl.countData_inv (s : Ctl) (x : Session) (l : Label) (b : CodedBlock) : (Ctl.countData s x l b).inv = s.inv := by simp [Ctl.countData]
@[simp] theorem Ctl.dataWritten_inv (s : Ctl) (c : Chan) (i : BankIx) : (Ctl.dataWritten s c i).inv = s.inv := by
  simp only [Ctl.dataWritten]
  (repeat' split) <;> simp
@[simp] theorem Ctl.offerVerify_inv (s : Ctl) (set : ℕ) (owner : Link) : (Ctl.offerVerify s set owner).inv = s.inv := by
  simp only [Ctl.offerVerify]
  (repeat' split) <;> simp
@[simp] theorem Ctl.closeComplete_inv (s : Ctl) (c : Chan) (x : Session) : (Ctl.closeComplete s c x).inv = s.inv := by
  simp only [Ctl.closeComplete]
  (repeat' split) <;> simp
@[simp] theorem Ctl.continuesWritten_inv (s : Ctl) (c : Chan) (x : Session) : (Ctl.continuesWritten s c x).inv = s.inv := by
  simp only [Ctl.continuesWritten]
  (repeat' split) <;> simp
@[simp] theorem Ctl.summaryWritten_inv (s : Ctl) (c : Chan) (f : SummaryFlag) : (Ctl.summaryWritten s c f).inv = s.inv := by
  simp only [Ctl.summaryWritten]
  (repeat' split) <;> simp
@[simp] theorem Ctl.sessionFault_inv (s : Ctl) (c : Chan) (t : Task) (media : Bool) : (Ctl.sessionFault s c t media).inv = s.inv := by
  simp only [Ctl.sessionFault]
  (repeat' split) <;> simp
@[simp] theorem Ctl.endOfMedia_inv (s : Ctl) (c : Chan) (i : BankIx) : (Ctl.endOfMedia s c i).inv = s.inv := by
  simp only [Ctl.endOfMedia]
  (repeat' split) <;> simp
@[simp] theorem Ctl.suspendAsk_inv (s : Ctl) (c : Chan) : (Ctl.suspendAsk s c).inv = s.inv := by
  simp only [Ctl.suspendAsk]
  split <;> simp
@[simp] theorem Ctl.suspendWithdrawn_inv (s : Ctl) (c : Chan) : (Ctl.suspendWithdrawn s c).inv = s.inv := by
  simp only [Ctl.suspendWithdrawn]
  (repeat' split) <;> simp
@[simp] theorem Ctl.sessionResume_inv (s : Ctl) (c : Chan) : (Ctl.sessionResume s c).inv = s.inv := by
  simp only [Ctl.sessionResume]
  (repeat' split) <;> simp
@[simp] theorem Ctl.finishChannel_inv (s : Ctl) (c : Chan) : (Ctl.finishChannel s c).inv = s.inv := by
  simp only [Ctl.finishChannel]
  (repeat' split) <;> simp
@[simp] theorem Ctl.finishDrain_inv (s : Ctl) (c : Chan) : (Ctl.finishDrain s c).inv = s.inv := by
  simp only [Ctl.finishDrain]
  (repeat' split) <;> simp
@[simp] theorem Ctl.finishDrains_inv (s : Ctl) : (Ctl.finishDrains s).inv = s.inv := by simp [Ctl.finishDrains]
@[simp] theorem Ctl.modVerify_inv (s : Ctl) (set : ℕ) (f : VerifyEntry → VerifyEntry) : (Ctl.modVerify s set f).inv = s.inv := by rfl
@[simp] theorem Ctl.dropVerify_inv (s : Ctl) (set : ℕ) : (Ctl.dropVerify s set).inv = s.inv := by rfl
@[simp] theorem Ctl.verifyReport_inv (s : Ctl) (v : VerifyEntry) (o : VerifyOutcome) (reason : Option Code) : (Ctl.verifyReport s v o reason).inv = s.inv := by
  simp only [Ctl.verifyReport]
  split <;> simp
@[simp] theorem Ctl.verifyLeave_inv (s : Ctl) (v : VerifyEntry) (c : Chan) (unload : Bool) (stopped : Bool) : (Ctl.verifyLeave s v c unload stopped).inv = s.inv := by
  simp only [Ctl.verifyLeave]
  split <;> simp
@[simp] theorem Ctl.verifyEnd_inv (s : Ctl) (v : VerifyEntry) (o : VerifyOutcome) (reason : Option Code) (unload : Bool) : (Ctl.verifyEnd s v o reason unload).inv = s.inv := by
  simp only [Ctl.verifyEnd]
  split <;> simp
@[simp] theorem Ctl.verifyStop_inv (s : Ctl) (v : VerifyEntry) (reason : Code) (unload : Bool) : (Ctl.verifyStop s v reason unload).inv = s.inv := by
  simp only [Ctl.verifyStop]
  split <;> simp
@[simp] theorem Ctl.verifyPause_inv (s : Ctl) (v : VerifyEntry) (c : Chan) : (Ctl.verifyPause s v c).inv = s.inv := by simp [Ctl.verifyPause]
@[simp] theorem Ctl.verifyAskPause_inv (s : Ctl) (c : Chan) : (Ctl.verifyAskPause s c).inv = s.inv := by
  simp only [Ctl.verifyAskPause]
  (repeat' split) <;> simp
@[simp] theorem Ctl.verifyLoad_inv (s : Ctl) (v : VerifyEntry) (c : Chan) (x : Extent) : (Ctl.verifyLoad s v c x).inv = s.inv := by
  simp only [Ctl.verifyLoad]
  (repeat' split) <;> simp
@[simp] theorem Ctl.verifyHome_inv (s : Ctl) (v : VerifyEntry) (c : Chan) (x : Extent) : (Ctl.verifyHome s v c x).inv = s.inv := by
  simp only [Ctl.verifyHome]
  split <;> simp
@[simp] theorem Ctl.verifyLocate_inv (s : Ctl) (v : VerifyEntry) (c : Chan) (x : Extent) : (Ctl.verifyLocate s v c x).inv = s.inv := by rfl
@[simp] theorem Ctl.verifyGo_inv (c : Chan) (n : Nat) (s : Ctl) : (Ctl.verifyGo c n s).inv = s.inv := by
  induction n generalizing s with
  | zero => rfl
  | succ n ih =>
    simp only [Ctl.verifyGo]
    (repeat' split) <;> simp [ih] <;> rfl
@[simp] theorem Ctl.verifyNext_inv (s : Ctl) (c : Chan) : (Ctl.verifyNext s c).inv = s.inv := by simp [Ctl.verifyNext]
@[simp] theorem Ctl.verifyExtentEnd_inv (s : Ctl) (v : VerifyEntry) (c : Chan) (x : Extent) : (Ctl.verifyExtentEnd s v c x).inv = s.inv := by simp [Ctl.verifyExtentEnd]
@[simp] theorem Ctl.verifyContinue_inv (s : Ctl) (c : Chan) : (Ctl.verifyContinue s c).inv = s.inv := by
  simp only [Ctl.verifyContinue]
  (repeat' split) <;> simp
@[simp] theorem Ctl.verifyThreaded_inv (s : Ctl) (c : Chan) : (Ctl.verifyThreaded s c).inv = s.inv := by
  simp only [Ctl.verifyThreaded]
  (repeat' split) <;> simp
@[simp] theorem Ctl.verifyPositioned_inv (s : Ctl) (c : Chan) (read : Task) : (Ctl.verifyPositioned s c read).inv = s.inv := by
  simp only [Ctl.verifyPositioned]
  (repeat' split) <;> simp
@[simp] theorem Ctl.verifyExtentLost_inv (s : Ctl) (c : Chan) : (Ctl.verifyExtentLost s c).inv = s.inv := by
  simp only [Ctl.verifyExtentLost]
  (repeat' split) <;> simp
@[simp] theorem Ctl.verifyVolRead_inv (s : Ctl) (c : Chan) (r : ReadResult) : (Ctl.verifyVolRead s c r).inv = s.inv := by
  simp only [Ctl.verifyVolRead]
  (repeat' split) <;> simp
@[simp] theorem Ctl.verifyJudge_inv (s : Ctl) (v : VerifyEntry) (c : Chan) (b : TapeBlock) (good : Bool) : (Ctl.verifyJudge s v c b good).inv = s.inv := by
  simp only [Ctl.verifyJudge]
  (repeat' split) <;> simp
@[simp] theorem Ctl.verifyRead_inv (s : Ctl) (c : Chan) (r : ReadResult) : (Ctl.verifyRead s c r).inv = s.inv := by
  simp only [Ctl.verifyRead]
  (repeat' split) <;> simp
@[simp] theorem Ctl.verifyExpanded_inv (s : Ctl) (c : Chan) (b : TapeBlock) (d : Option DictSlot) : (Ctl.verifyExpanded s c b d).inv = s.inv := by
  simp only [Ctl.verifyExpanded]
  split <;> simp
@[simp] theorem Ctl.verifyFault_inv (s : Ctl) (c : Chan) (media : Bool) : (Ctl.verifyFault s c media).inv = s.inv := by
  simp only [Ctl.verifyFault]
  (repeat' split) <;> simp
@[simp] theorem Ctl.verifyLoadFailed_inv (s : Ctl) (reason : Code) : (Ctl.verifyLoadFailed s reason).inv = s.inv := by
  simp only [Ctl.verifyLoadFailed]
  split <;> simp
@[simp] theorem Ctl.verifyBegin_inv (s : Ctl) (v : VerifyEntry) (c : Chan) (place : ℕ) : (Ctl.verifyBegin s v c place).inv = s.inv := by simp [Ctl.verifyBegin]
@[simp] theorem Ctl.verifyLook_inv (l : List VerifyEntry) (s : Ctl) : (Ctl.verifyLook l s).inv = s.inv := by
  induction l generalizing s with
  | nil => rfl
  | cons v l ih =>
    simp only [Ctl.verifyLook]
    (repeat' split) <;> simp [ih]
@[simp] theorem Ctl.verifyStart_inv (s : Ctl) : (Ctl.verifyStart s).inv = s.inv := by
  simp only [Ctl.verifyStart]
  split <;> simp
@[simp] theorem Ctl.verifyRejudge_inv (s : Ctl) : (Ctl.verifyRejudge s).inv = s.inv := by
  simp only [Ctl.verifyRejudge]
  (repeat' split) <;> simp
@[simp] theorem Ctl.restoreClaim_inv (s : Ctl) (r : RestoreCtx) (c : Chan) : (Ctl.restoreClaim s r c).inv = s.inv := by rfl
theorem Ctl.restoreTry_inv (s : Ctl) (r : RestoreCtx) {t : Ctl} (h : s.restoreTry r = some t) : t.inv = s.inv := by
  simp only [Ctl.restoreTry] at h
  split at h <;> simp at h <;> subst h <;> simp
@[simp] theorem Ctl.restoreLook_inv (l : List RestoreCtx) (s : Ctl) : (Ctl.restoreLook l s).inv = s.inv := by
  induction l generalizing s with
  | nil => rfl
  | cons r l ih =>
    simp only [Ctl.restoreLook]
    split
    · rename_i h
      rw [ih, Ctl.restoreTry_inv _ _ h]; simp
    · simp [ih]
@[simp] theorem Ctl.dropRestore_inv (s : Ctl) (id : ℕ) : (Ctl.dropRestore s id).inv = s.inv := by rfl
@[simp] theorem Ctl.withdrawData_inv (s : Ctl) (l : Link) (c : Chan) : (Ctl.withdrawData s l c).inv = s.inv := by rfl
@[simp] theorem Ctl.restoreEnd_inv (s : Ctl) (r : RestoreCtx) (o : RestoreOutcome) (reason : Option Code) (unload : Bool) : (Ctl.restoreEnd s r o reason unload).inv = s.inv := by
  simp only [Ctl.restoreEnd]
  (repeat' split) <;> simp
@[simp] theorem Ctl.restoreRefused_inv (s : Ctl) (id : Nat) : (s.restoreRefused id).inv = s.inv := by
  simp only [Ctl.restoreRefused]
  split
  · split
    · rename_i h
      rw [Ctl.restoreTry_inv _ _ h]; simp
    · (repeat' split) <;> simp
  · rfl
@[simp] theorem Ctl.restoreOffer_inv (s : Ctl) (c : Chan) : (Ctl.restoreOffer s c).inv = s.inv := by
  simp only [Ctl.restoreOffer]
  (repeat' split) <;> simp
@[simp] theorem Ctl.beginSkip_inv (s : Ctl) (c : Chan) (r : RestoreCtx) (x : Option Extent) (reason : Code) (lost : Bool) : (Ctl.beginSkip s c r x reason lost).inv = s.inv := by simp [Ctl.beginSkip]
theorem Ctl.tellDamage_inv (s : Ctl) (r : RestoreCtx) (last : Nat) : (s.tellDamage r last).1.inv = s.inv := by
  simp only [Ctl.tellDamage]
  split <;> simp
@[simp] theorem Ctl.restoreSwitch_inv (c : Chan) (n : Nat) (s : Ctl) : (Ctl.restoreSwitch c n s).inv = s.inv := by
  induction n generalizing s with
  | zero => rfl
  | succ n ih =>
    simp only [Ctl.restoreSwitch]
    (repeat' split) <;> simp [ih, Ctl.tellDamage_inv]
@[simp] theorem Ctl.restoreNextExtent_inv (s : Ctl) (c : Chan) : (Ctl.restoreNextExtent s c).inv = s.inv := by
  simp only [Ctl.restoreNextExtent]
  split <;> simp
@[simp] theorem Ctl.seekContinue_inv (s : Ctl) (c : Chan) : (Ctl.seekContinue s c).inv = s.inv := by
  simp only [Ctl.seekContinue]
  (repeat' split) <;> simp
@[simp] theorem Ctl.restoreDamaged_inv (s : Ctl) (c : Chan) (reason : Code) (lost : Bool) : (Ctl.restoreDamaged s c reason lost).inv = s.inv := by
  simp only [Ctl.restoreDamaged]
  (repeat' split) <;> simp
@[simp] theorem Ctl.restoreReadNext_inv (s : Ctl) (c : Chan) : (Ctl.restoreReadNext s c).inv = s.inv := by
  simp only [Ctl.restoreReadNext]
  (repeat' split) <;> simp
@[simp] theorem Ctl.restoreVolRead_inv (s : Ctl) (c : Chan) (res : ReadResult) : (Ctl.restoreVolRead s c res).inv = s.inv := by
  simp only [Ctl.restoreVolRead]
  (repeat' split) <;> simp
@[simp] theorem Ctl.restoreExpand_inv (s : Ctl) (c : Chan) (b : TapeBlock) : (Ctl.restoreExpand s c b).inv = s.inv := by rfl
@[simp] theorem Ctl.searchNext_inv (s : Ctl) (c : Chan) (r : RestoreCtx) : (Ctl.searchNext s c r).inv = s.inv := by
  simp only [Ctl.searchNext]
  (repeat' split) <;> simp
@[simp] theorem Ctl.restoreSearch_inv (s : Ctl) (c : Chan) (r : RestoreCtx) (res : ReadResult) : (Ctl.restoreSearch s c r res).inv = s.inv := by
  simp only [Ctl.restoreSearch]
  (repeat' split) <;> simp
@[simp] theorem Ctl.restoreDeliver_inv (s : Ctl) (c : Chan) (r : RestoreCtx) (res : ReadResult) : (Ctl.restoreDeliver s c r res).inv = s.inv := by
  simp only [Ctl.restoreDeliver]
  (repeat' split) <;> simp
@[simp] theorem Ctl.restoreSeek_inv (s : Ctl) (c : Chan) (r : RestoreCtx) (res : ReadResult) : (Ctl.restoreSeek s c r res).inv = s.inv := by
  simp only [Ctl.restoreSeek]
  (repeat' split) <;> simp
@[simp] theorem Ctl.restoreRead_inv (s : Ctl) (c : Chan) (res : ReadResult) : (Ctl.restoreRead s c res).inv = s.inv := by
  simp only [Ctl.restoreRead]
  (repeat' split) <;> simp
@[simp] theorem Ctl.restoreThreaded_inv (s : Ctl) (c : Chan) : (Ctl.restoreThreaded s c).inv = s.inv := by
  simp only [Ctl.restoreThreaded]
  split <;> simp
@[simp] theorem Ctl.restoreSend_inv (s : Ctl) (c : Chan) (r : RestoreCtx) (b : TapeBlock) (out : List Byte) (off : ℕ) (rec : ℕ) : (Ctl.restoreSend s c r b out off rec).inv = s.inv := by simp [Ctl.restoreSend]
@[simp] theorem Ctl.seekFound_inv (s : Ctl) (c : Chan) (r : RestoreCtx) (b : TapeBlock) (out : List Byte) :
    (s.seekFound c r b out).inv = s.inv := by
  simp only [Ctl.seekFound]
  (repeat' split) <;> simp [Ctl.tellDamage_inv]
@[simp] theorem Ctl.restoreExpanded_inv (s : Ctl) (c : Chan) (b : TapeBlock) (d : Option DictSlot) : (Ctl.restoreExpanded s c b d).inv = s.inv := by
  simp only [Ctl.restoreExpanded]
  (repeat' split) <;> simp
@[simp] theorem Ctl.restoreBlockDone_inv (s : Ctl) (c : Chan) (r : RestoreCtx) : (Ctl.restoreBlockDone s c r).inv = s.inv := by
  simp only [Ctl.restoreBlockDone]
  (repeat' split) <;> simp
@[simp] theorem Ctl.restoreFrameSent_inv (s : Ctl) (l : Link) (d : DataIn) : (Ctl.restoreFrameSent s l d).inv = s.inv := by
  simp only [Ctl.restoreFrameSent]
  (repeat' split) <;> simp
@[simp] theorem Ctl.restoreCredit_inv (s : Ctl) (l : Link) (c : Chan) (n : ℕ) : (Ctl.restoreCredit s l c n).inv = s.inv := by
  simp only [Ctl.restoreCredit]
  (repeat' split) <;> simp
@[simp] theorem Ctl.restoreFault_inv (s : Ctl) (c : Chan) (media : Bool) : (Ctl.restoreFault s c media).inv = s.inv := by
  simp only [Ctl.restoreFault]
  (repeat' split) <;> simp
@[simp] theorem Ctl.restoreLoadFailed_inv (s : Ctl) (c : Chan) (reason : Code) : (Ctl.restoreLoadFailed s c reason).inv = s.inv := by
  simp only [Ctl.restoreLoadFailed]
  split <;> simp
@[simp] theorem Ctl.restoreRejudge_inv (s : Ctl) (c : Chan) : (Ctl.restoreRejudge s c).inv = s.inv := by
  simp only [Ctl.restoreRejudge]
  (repeat' split) <;> simp
@[simp] theorem Ctl.judgeWaiting_inv (s : Ctl) : (Ctl.judgeWaiting s).inv = s.inv := by simp [Ctl.judgeWaiting]
@[simp] theorem Ctl.notifyEach_inv (s : Ctl) (ps : List Requester) (n : Notice) : (s.notifyEach ps n).inv = s.inv :=
  Ctl.foldl_inv _ (fun _ _ => by simp) _ _
@[simp] theorem Ctl.startImageRead_inv (s : Ctl) : (Ctl.startImageRead s).inv = s.inv := by rfl
@[simp] theorem Ctl.startPending_inv (s : Ctl) : (Ctl.startPending s).inv = s.inv := by
  simp only [Ctl.startPending]
  split <;> simp
@[simp] theorem Ctl.afterCheckpoint_inv (s : Ctl) : (Ctl.afterCheckpoint s).inv = s.inv := by
  simp only [Ctl.afterCheckpoint]
  split <;> simp
@[simp] theorem Ctl.checkpointDone_inv (s : Ctl) : (Ctl.checkpointDone s).inv = s.inv := by simp [Ctl.checkpointDone]
@[simp] theorem Ctl.checkpointFailed_inv (s : Ctl) : (Ctl.checkpointFailed s).inv = s.inv := by simp [Ctl.checkpointFailed]
@[simp] theorem Ctl.modRecovery_inv (s : Ctl) (f : Recovery → Recovery) : (Ctl.modRecovery s f).inv = s.inv := by rfl
@[simp] theorem Ctl.recoveryEnd_inv (s : Ctl) (r : Recovery) (o : RecoverOutcome) (rebuilt left : Nat) (reason : Option Code) (unload : Bool) :
    (s.recoveryEnd r o rebuilt left reason unload).inv = s.inv := by
  simp only [Ctl.recoveryEnd]
  split <;> simp
@[simp] theorem Ctl.recoveryThreaded_inv (s : Ctl) (c : Chan) : (Ctl.recoveryThreaded s c).inv = s.inv := by simp [Ctl.recoveryThreaded]
@[simp] theorem Ctl.recoveryVolRead_inv (s : Ctl) (c : Chan) (res : ReadResult) : (Ctl.recoveryVolRead s c res).inv = s.inv := by
  simp only [Ctl.recoveryVolRead]
  (repeat' split) <;> simp
@[simp] theorem Ctl.recoveryApply_inv (s : Ctl) (r : Recovery) : (s.recoveryApply r).inv = s.inv := by
  simp only [Ctl.recoveryApply]
  rw [Ctl.recoveryEnd_inv, Ctl.foldl_inv _ (fun _ _ => by simp)]
  simp
@[simp] theorem Ctl.recoveryNext_inv (s : Ctl) (c : Chan) (r : Recovery) : (Ctl.recoveryNext s c r).inv = s.inv := by rfl
@[simp] theorem Ctl.recoveryRead_inv (s : Ctl) (c : Chan) (res : ReadResult) : (Ctl.recoveryRead s c res).inv = s.inv := by
  simp only [Ctl.recoveryRead]
  (repeat' split) <;> simp
@[simp] theorem Ctl.recoveryFault_inv (s : Ctl) (c : Chan) (media : Bool) : (Ctl.recoveryFault s c media).inv = s.inv := by
  simp only [Ctl.recoveryFault]
  (repeat' split) <;> simp
@[simp] theorem Ctl.recoveryLoadFailed_inv (s : Ctl) (reason : Code) : (Ctl.recoveryLoadFailed s reason).inv = s.inv := by
  simp only [Ctl.recoveryLoadFailed]
  split <;> simp
@[simp] theorem Ctl.recoveryRejudge_inv (s : Ctl) (c : Chan) : (Ctl.recoveryRejudge s c).inv = s.inv := by
  simp only [Ctl.recoveryRejudge]
  (repeat' split) <;> simp
@[simp] theorem Ctl.rejudgeOn_inv (s : Ctl) (c : Chan) : (Ctl.rejudgeOn s c).inv = s.inv := by
  simp only [Ctl.rejudgeOn]
  split <;> simp
@[simp] theorem Ctl.ejectFault_inv (s : Ctl) (c : Chan) : (Ctl.ejectFault s c).inv = s.inv := by
  simp only [Ctl.ejectFault]
  (repeat' split) <;> simp
@[simp] theorem Ctl.faultFor_inv (s : Ctl) (c : Chan) (k : Task) (media : Bool) : (Ctl.faultFor s c k media).inv = s.inv := by
  simp only [Ctl.faultFor]
  (repeat' split) <;> simp
@[simp] theorem Ctl.answerRefused_inv (s : Ctl) (c : Chan) : (Ctl.answerRefused s c).inv = s.inv := by
  simp only [Ctl.answerRefused]
  split <;> simp
@[simp] theorem Ctl.clearRefused_inv (s : Ctl) : (Ctl.clearRefused s).inv = s.inv := by rfl
@[simp] theorem Ctl.answerAll_inv (n : Nat) (s : Ctl) : (Ctl.answerAll n s).inv = s.inv := by
  induction n generalizing s with
  | zero => simp [Ctl.answerAll]
  | succ n ih =>
    simp only [Ctl.answerAll]
    split <;> simp [ih]
@[simp] theorem Ctl.answerRefusals_inv (s : Ctl) : (Ctl.answerRefusals s).inv = s.inv := by simp [Ctl.answerRefusals]
@[simp] theorem Ctl.reloadCheckpoint_inv (s : Ctl) : (Ctl.reloadCheckpoint s).inv = s.inv := by
  simp only [Ctl.reloadCheckpoint]
  (repeat' split) <;> rfl
@[simp] theorem Ctl.reloadGoesOn_inv (s : Ctl) : (Ctl.reloadGoesOn s).inv = s.inv := by
  simp only [Ctl.reloadGoesOn]
  (repeat' split) <;> simp
@[simp] theorem Ctl.commandEnd_inv (s : Ctl) : (Ctl.commandEnd s).inv = s.inv := by simp [Ctl.commandEnd]
@[simp] theorem Ctl.refuseSuspension_inv (s : Ctl) (c : Chan) : (Ctl.refuseSuspension s c).inv = s.inv := by
  simp only [Ctl.refuseSuspension]
  (repeat' split) <;> simp
@[simp] theorem Ctl.expire_inv (s : Ctl) (set : ℕ) : (Ctl.expire s set).inv = s.inv := by
  simp only [Ctl.expire]
  split <;> simp
@[simp] theorem Ctl.reclaim_inv (s : Ctl) (l : Label) : (Ctl.reclaim s l).inv = s.inv := by simp [Ctl.reclaim]
@[simp] theorem Ctl.forget_inv (s : Ctl) (l : Label) : (Ctl.forget s l).inv = s.inv := by simp [Ctl.forget]
@[simp] theorem Ctl.judgeHold_inv (s : Ctl) : (Ctl.judgeHold s).inv = s.inv := by
  simp only [Ctl.judgeHold]
  (repeat' split) <;> simp
@[simp] theorem Ctl.setResult_inv (s : Ctl) (w : WatchId) (r : WatchResult) : (Ctl.setResult s w r).inv = s.inv := by rfl
@[simp] theorem Ctl.clearFailures_inv (s : Ctl) : (Ctl.clearFailures s).inv = s.inv := by
  simp only [Ctl.clearFailures]
  split <;> simp
@[simp] theorem Ctl.restartSampling_inv (s : Ctl) (first : WatchId) : (Ctl.restartSampling s first).inv = s.inv := by
  simp only [Ctl.restartSampling]
  (repeat' split) <;> simp
@[simp] theorem Ctl.readingFailed_inv (s : Ctl) (w : WatchId) : (Ctl.readingFailed s w).inv = s.inv := by
  simp only [Ctl.readingFailed]
  split <;> simp
@[simp] theorem Ctl.readingDone_inv (s : Ctl) (w : WatchId) (v : ℤ) : (Ctl.readingDone s w v).inv = s.inv := by
  simp only [Ctl.readingDone]
  split <;> simp
@[simp] theorem Ctl.resetClimate_inv (s : Ctl) : (Ctl.resetClimate s).inv = s.inv := by simp [Ctl.resetClimate]
@[simp] theorem Ctl.rewriteWatch_inv (s : Ctl) (w : WatchId) (x : Watch) : (Ctl.rewriteWatch s w x).inv = s.inv := by simp [Ctl.rewriteWatch]
@[simp] theorem Ctl.sample_inv (s : Ctl) : (Ctl.sample s).inv = s.inv := by
  simp only [Ctl.sample]
  split <;> simp
@[simp] theorem Ctl.sensorAnswer_inv (s : Ctl) (r : SensorReply) : (Ctl.sensorAnswer s r).inv = s.inv := by
  simp only [Ctl.sensorAnswer]
  (repeat' split) <;> simp
@[simp] theorem Ctl.sensorSilent_inv (s : Ctl) : (Ctl.sensorSilent s).inv = s.inv := by
  simp only [Ctl.sensorSilent]
  split <;> simp
@[simp] theorem Ctl.notifyAsked_inv (s : Ctl) (asked : PerLink Bool) (n : Notice) : (Ctl.notifyAsked s asked n).inv = s.inv := by
  simp only [Ctl.notifyAsked]
  (repeat' split) <;> simp
@[simp] theorem Ctl.stopScan_inv (s : Ctl) (m : Mag) : (Ctl.stopScan s m).inv = s.inv := by rfl
@[simp] theorem Ctl.command_inv (s : Ctl) (k : MotionCmd) (ph : Phase) : (Ctl.command s k ph).inv = s.inv := by rfl
@[simp] theorem Ctl.answered_inv (s : Ctl) : (Ctl.answered s).inv = s.inv := by rfl
@[simp] theorem Ctl.pickerIdle_inv (s : Ctl) : (Ctl.pickerIdle s).inv = s.inv := by rfl
@[simp] theorem Ctl.modOrder_inv (s : Ctl) (id : ℕ) (f : Order → Order) : (Ctl.modOrder s id f).inv = s.inv := by rfl
@[simp] theorem Ctl.loadFailed_inv (s : Ctl) (o : Order) (reason : Code) : (Ctl.loadFailed s o reason).inv = s.inv := by
  simp only [Ctl.loadFailed]
  (repeat' split) <;> simp
@[simp] theorem Ctl.loadThread_inv (s : Ctl) (o : Order) (c : Chan) : (Ctl.loadThread s o c).inv = s.inv := by
  simp only [Ctl.loadThread]
  (repeat' split) <;> simp
@[simp] theorem Ctl.loadDone_inv (s : Ctl) (o : Order) (c : Chan) : (Ctl.loadDone s o c).inv = s.inv := by
  simp only [Ctl.loadDone]
  (repeat' split) <;> simp
@[simp] theorem Ctl.presentUnthreaded_inv (s : Ctl) (c : Chan) : (Ctl.presentUnthreaded s c).inv = s.inv := by rfl
@[simp] theorem Ctl.outside_inv (s : Ctl) (p : Cart → Element → Bool) : (Ctl.outside s p).inv = s.inv := by simp [Ctl.outside]
@[simp] theorem Ctl.auditOutside_inv (s : Ctl) (m : Mag) : (Ctl.auditOutside s m).inv = s.inv := by simp [Ctl.auditOutside]
@[simp] theorem Ctl.passOver_inv (s : Ctl) (es : List Element) : (Ctl.passOver s es).inv = s.inv := by rfl
@[simp] theorem Ctl.scanOutside_inv (s : Ctl) : (Ctl.scanOutside s).inv = s.inv := by simp [Ctl.scanOutside]
@[simp] theorem Ctl.run_inv (s : Ctl) (o : Order) : (Ctl.run s o).inv = s.inv := by rfl
@[simp] theorem Ctl.transportFetched_inv (s : Ctl) (e : Element) : (Ctl.transportFetched s e).inv = s.inv := by
  simp only [Ctl.transportFetched]
  split <;> simp
@[simp] theorem Ctl.settled_inv (s : Ctl) : s.settled.inv = s.inv := by
  simp only [Ctl.settled]
  rw [Ctl.foldl_inv _ (fun _ _ => by simp)]; simp
@[simp] theorem Ctl.putBack_inv (s : Ctl) : (Ctl.putBack s).inv = s.inv := by
  simp only [Ctl.putBack]
  split <;> simp
@[simp] theorem Ctl.beginHoming_inv (s : Ctl) : (Ctl.beginHoming s).inv = s.inv := by rfl
@[simp] theorem Ctl.beginRestore_inv (s : Ctl) (r : RestoreCtx) : (s.beginRestore r).inv = s.inv := by
  simp only [Ctl.beginRestore]
  split
  · exact Ctl.restoreTry_inv _ _ (by assumption)
  · simp
@[simp] theorem Ctl.creditFrame_inv (s : Ctl) (l : Link) (ch : ℕ) (count : ℕ) : (Ctl.creditFrame s l ch count).inv = s.inv := by
  simp only [Ctl.creditFrame]
  (repeat' split) <;> simp
@[simp] theorem Ctl.stallExpired_inv (s : Ctl) (c : Chan) : (Ctl.stallExpired s c).inv = s.inv := by
  simp only [Ctl.stallExpired]
  (repeat' split) <;> simp
@[simp] theorem Ctl.placeRestores_inv (s : Ctl) : (Ctl.placeRestores s).inv = s.inv := by simp [Ctl.placeRestores]
@[simp] theorem Ctl.requestArrives_inv (s : Ctl) (p : Requester) (q : QueuedReq) : (Ctl.requestArrives s p q).inv = s.inv := by
  simp only [Ctl.requestArrives]
  (repeat' split) <;> simp
@[simp] theorem Ctl.refuseBad_inv (s : Ctl) (p : Requester) : (Ctl.refuseBad s p).inv = s.inv := by
  simp only [Ctl.refuseBad]
  (repeat' split) <;> simp
@[simp] theorem Ctl.kick_inv (s : Ctl) (l : Link) : (Ctl.kick s l).inv = s.inv := by rfl
@[simp] theorem Ctl.frameSent_inv (s : Ctl) (l : Link) : (Ctl.frameSent s l).inv = s.inv := by
  simp only [Ctl.frameSent]
  (repeat' split) <;> simp
@[simp] theorem Ctl.grantFor_inv (s : Ctl) (l : Link) (c : Chan) : (Ctl.grantFor s l c).inv = s.inv := by
  simp only [Ctl.grantFor]
  (repeat' split) <;> simp
@[simp] theorem Ctl.dropCreditsOf_inv (s : Ctl) (l : Link) (c : Chan) : (Ctl.dropCreditsOf s l c).inv = s.inv := by
  simp only [Ctl.dropCreditsOf]
  (repeat' split) <;> simp
@[simp] theorem Ctl.beginRecovery_inv (s : Ctl) (p : Requester) (l : Label) (c : Chan) : (Ctl.beginRecovery s p l c).inv = s.inv := by
  simp only [Ctl.beginRecovery]
  split <;> simp
@[simp] theorem Ctl.eraseDone_inv (s : Ctl) : (Ctl.eraseDone s).inv = s.inv := by
  simp only [Ctl.eraseDone]
  split <;> simp
@[simp] theorem Ctl.programDone_inv (s : Ctl) (pageMatches : Bool) (lastPage : Bool) : (Ctl.programDone s pageMatches lastPage).inv = s.inv := by
  simp only [Ctl.programDone]
  (repeat' split) <;> simp
@[simp] theorem Ctl.commitDone_inv (s : Ctl) : (Ctl.commitDone s).inv = s.inv := by
  simp only [Ctl.commitDone]
  split <;> simp
@[simp] theorem Ctl.resetPort_inv (s : Ctl) (l : Link) (cause : ResetCause) : (Ctl.resetPort s l cause).inv = s.inv := by rfl
@[simp] theorem Ctl.queueLinkReset_inv (s : Ctl) (l : Link) : (Ctl.queueLinkReset s l).inv = s.inv := by simp [Ctl.queueLinkReset]
@[simp] theorem Ctl.sessionLinkReset_inv (s : Ctl) (l : Link) (c : Chan) : (Ctl.sessionLinkReset s l c).inv = s.inv := by
  simp only [Ctl.sessionLinkReset]
  (repeat' split) <;> simp
@[simp] theorem Ctl.restoreLinkReset_inv (s : Ctl) (l : Link) : (s.restoreLinkReset l).inv = s.inv := by
  simp only [Ctl.restoreLinkReset]
  rw [Ctl.foldl_inv]
  · simp
  · intro s a; split <;> simp
@[simp] theorem Ctl.recoveryLinkReset_inv (s : Ctl) (l : Link) : (Ctl.recoveryLinkReset s l).inv = s.inv := by
  simp only [Ctl.recoveryLinkReset]
  (repeat' split) <;> simp
@[simp] theorem Ctl.verifyLinkReset_inv (s : Ctl) (l : Link) : (s.verifyLinkReset l).inv = s.inv := by
  simp only [Ctl.verifyLinkReset]
  rw [Ctl.foldl_inv]
  intro s a; split <;> simp
@[simp] theorem Ctl.portsReset_inv (s : Ctl) (keep : List Response) (cause : ResetCause) : (Ctl.portsReset s keep cause).inv = s.inv := by simp [Ctl.portsReset]
@[simp] theorem Ctl.claimsReset_inv (s : Ctl) : s.claimsReset.inv = s.inv := by
  simp only [Ctl.claimsReset]
  rw [Ctl.foldl_inv _ (fun _ _ => by simp)]; simp
@[simp] theorem Ctl.restoresReset_inv (s : Ctl) : s.restoresReset.inv = s.inv := by
  simp only [Ctl.restoresReset]
  rw [Ctl.foldl_inv]
  intro s a; split <;> simp
@[simp] theorem Ctl.verifyReset_inv (s : Ctl) : s.verifyReset.inv = s.inv := by
  simp only [Ctl.verifyReset]
  rw [Ctl.foldl_inv]
  intro s a; split <;> simp
@[simp] theorem Ctl.recoveryReset_inv (s : Ctl) : (Ctl.recoveryReset s).inv = s.inv := by
  simp only [Ctl.recoveryReset]
  split <;> simp
@[simp] theorem Ctl.activitiesReset_inv (s : Ctl) : s.activitiesReset.inv = s.inv := by simp [Ctl.activitiesReset]
@[simp] theorem Ctl.transportReset_inv (s : Ctl) (c : Chan) : (Ctl.transportReset s c).inv = s.inv := by
  simp only [Ctl.transportReset]
  split <;> simp
@[simp] theorem Ctl.beginReload_inv (s : Ctl) : (Ctl.beginReload s).inv = s.inv := by rfl
@[simp] theorem Ctl.faultAtPowerUp_inv (s : Ctl) (c : Chan) : (Ctl.faultAtPowerUp s c).inv = s.inv := by
  simp only [Ctl.faultAtPowerUp]
  split <;> simp
@[simp] theorem Ctl.createSet_inv (s : Ctl) (owner : Link) (dict : ℕ) (ret : ℕ) (today : ℕ) : (Ctl.createSet s owner dict ret today).inv = s.inv := by simp [Ctl.createSet]
@[simp] theorem Ctl.beginSession_inv (s : Ctl) (c : Chan) (x : Session) : (Ctl.beginSession s c x).inv = s.inv := by
  simp only [Ctl.beginSession]
  split <;> simp
@[simp] theorem Ctl.beginSync_inv (s : Ctl) (c : Chan) : (Ctl.beginSync s c).inv = s.inv := by simp [Ctl.beginSync]
@[simp] theorem Ctl.beginClose_inv (s : Ctl) (c : Chan) : (Ctl.beginClose s c).inv = s.inv := by simp [Ctl.beginClose]
@[simp] theorem Ctl.closeIfFull_inv (s : Ctl) (c : Chan) (i : BankIx) : (Ctl.closeIfFull s c i).inv = s.inv := by
  simp only [Ctl.closeIfFull]
  split <;> simp
@[simp] theorem Ctl.placeData_inv (s : Ctl) (c : Chan) (kept : Option BankIx) (bytes : List Byte) (eor : Bool) : (Ctl.placeData s c kept bytes eor).inv = s.inv := by
  simp only [Ctl.placeData]
  (repeat' split) <;> simp
@[simp] theorem Ctl.dataFrame_inv (s : Ctl) (l : Link) (c : Chan) (eor : Bool) (bytes : List Byte) : (Ctl.dataFrame s l c eor bytes).inv = s.inv := by
  simp only [Ctl.dataFrame]
  (repeat' split) <;> simp
@[simp] theorem Ctl.linkDamaged_inv (s : Ctl) (l : Link) : (s.linkDamaged l).inv = s.inv := by
  simp only [Ctl.linkDamaged]
  rw [Ctl.foldl_inv]
  intro s a; (repeat' split) <;> simp
@[simp] theorem Ctl.dataOut_inv (s : Ctl) (l : Link) (ch : ℕ) (flags : ℕ) (payload : List Byte) : (Ctl.dataOut s l ch flags payload).inv = s.inv := by
  simp only [Ctl.dataOut]
  (repeat' split) <;> simp
@[simp] theorem Ctl.frameDamaged_inv (s : Ctl) (p : Requester) : (Ctl.frameDamaged s p).inv = s.inv := by
  simp only [Ctl.frameDamaged]
  (repeat' split) <;> simp
@[simp] theorem Ctl.coderReport_inv (s : Ctl) (c : Chan) : (Ctl.coderReport s c).inv = s.inv := by simp [Ctl.coderReport]
@[simp] theorem Ctl.expanderDone_inv (s : Ctl) (c : Chan) : (Ctl.expanderDone s c).inv = s.inv := by
  simp only [Ctl.expanderDone]
  (repeat' split) <;> simp
@[simp] theorem Ctl.needExpired_inv (s : Ctl) (c : Chan) : (Ctl.needExpired s c).inv = s.inv := by
  simp only [Ctl.needExpired]
  (repeat' split) <;> simp
@[simp] theorem Ctl.threadedFor_inv (s : Ctl) (c : Chan) (k : Task) (tab : Tab) : (Ctl.threadedFor s c k tab).inv = s.inv := by
  simp only [Ctl.threadedFor]
  split <;> simp
@[simp] theorem Ctl.ejectedReport_inv (s : Ctl) (c : Chan) : (Ctl.ejectedReport s c).inv = s.inv := by
  simp only [Ctl.ejectedReport]
  split <;> simp
@[simp] theorem Ctl.writeInHand_inv (s : Ctl) (c : Chan) (i : BankIx) : (Ctl.writeInHand s c i).inv = s.inv := by
  simp only [Ctl.writeInHand]
  (repeat' split) <;> simp
@[simp] theorem Ctl.summaryRefused_inv (s : Ctl) (c : Chan) (f : SummaryFlag) : (Ctl.summaryRefused s c f).inv = s.inv := by
  simp only [Ctl.summaryRefused]
  split <;> simp
@[simp] theorem Ctl.writeSummary_inv (s : Ctl) (c : Chan) (f : SummaryFlag) : (Ctl.writeSummary s c f).inv = s.inv := by
  simp only [Ctl.writeSummary]
  (repeat' split) <;> simp
@[simp] theorem Ctl.sessionReads_inv (s : Ctl) (c : Chan) (k : Task) : (Ctl.sessionReads s c k).inv = s.inv := by
  simp only [Ctl.sessionReads]
  (repeat' split) <;> simp
@[simp] theorem Ctl.positionedFor_inv (s : Ctl) (c : Chan) (k : Task) : (Ctl.positionedFor s c k).inv = s.inv := by
  simp only [Ctl.positionedFor]
  split <;> simp
@[simp] theorem Ctl.located_inv (s : Ctl) (c : Chan) (o : TOrder) (pos : ℕ) : (Ctl.located s c o pos).inv = s.inv := by simp [Ctl.located]
@[simp] theorem Ctl.positionedReport_inv (s : Ctl) (c : Chan) : (Ctl.positionedReport s c).inv = s.inv := by
  simp only [Ctl.positionedReport]
  (repeat' split) <;> simp
@[simp] theorem Ctl.readFor_inv (s : Ctl) (c : Chan) (k : Task) (r : ReadResult) : (Ctl.readFor s c k r).inv = s.inv := by
  simp only [Ctl.readFor]
  split <;> simp
@[simp] theorem Ctl.readAnswered_inv (s : Ctl) (c : Chan) (o : TOrder) (pos : ℕ) (r : ReadResult) : (Ctl.readAnswered s c o pos r).inv = s.inv := by simp [Ctl.readAnswered]
@[simp] theorem Ctl.blockReadReport_inv (s : Ctl) (c : Chan) (bytes : List Byte) : (Ctl.blockReadReport s c bytes).inv = s.inv := by
  simp only [Ctl.blockReadReport]
  split <;> simp
@[simp] theorem Ctl.blockUnreadableReport_inv (s : Ctl) (c : Chan) : (Ctl.blockUnreadableReport s c).inv = s.inv := by
  simp only [Ctl.blockUnreadableReport]
  split <;> simp
@[simp] theorem Ctl.endOfDataReport_inv (s : Ctl) (c : Chan) (recorded : ℕ) : (Ctl.endOfDataReport s c recorded).inv = s.inv := by
  simp only [Ctl.endOfDataReport]
  (repeat' split) <;> simp
@[simp] theorem Ctl.writtenFor_inv (s : Ctl) (c : Chan) (k : Task) : (Ctl.writtenFor s c k).inv = s.inv := by
  simp only [Ctl.writtenFor]
  split <;> simp
@[simp] theorem Ctl.blockWrittenReport_inv (s : Ctl) (c : Chan) : (Ctl.blockWrittenReport s c).inv = s.inv := by
  simp only [Ctl.blockWrittenReport]
  split <;> simp
@[simp] theorem Ctl.endOfMediaReport_inv (s : Ctl) (c : Chan) : (Ctl.endOfMediaReport s c).inv = s.inv := by
  simp only [Ctl.endOfMediaReport]
  (repeat' split) <;> simp
@[simp] theorem Ctl.hardwareFault_inv (s : Ctl) (c : Chan) : (Ctl.hardwareFault s c).inv = s.inv := by simp [Ctl.hardwareFault]
@[simp] theorem Ctl.orderFault_inv (s : Ctl) (c : Chan) (o : TOrder) (k : FaultKind) : (Ctl.orderFault s c o k).inv = s.inv := by
  simp only [Ctl.orderFault]
  split <;> simp
@[simp] theorem Ctl.faultReport_inv (s : Ctl) (c : Chan) (k : FaultKind) : (Ctl.faultReport s c k).inv = s.inv := by
  simp only [Ctl.faultReport]
  split <;> simp
@[simp] theorem Ctl.transportTimeout_inv (s : Ctl) (c : Chan) : (Ctl.transportTimeout s c).inv = s.inv := by
  simp only [Ctl.transportTimeout]
  split <;> simp
@[simp] theorem Ctl.pushVerify_inv (s : Ctl) (v : VerifyEntry) : (Ctl.pushVerify s v).inv = s.inv := by rfl
end Sys2Proof.Machine
end

