-- ==== Sys2Proof/Laws/Motion.lean ====
section
/-! SUPPORT. The picker's state, command and phase are touched only by the picker's own operations: what the doors, sessions, tapes, verifies, restores, recoveries and ports do
leaves them as they are. One lemma per operation. -/

namespace Sys2Proof.Machine


@[simp] theorem Picker.mk_motion (st : PickerState) (lf : Option Code) (cmd : Option MotionCmd) (ph : Phase) (q h ao : List Order) (n : Nat)
    (f : Option FailedOrder) (c : Option Entry) (hr : Nat) (ps : List Element) :
    (Picker.mk st lf cmd ph q h ao n f c hr ps).motion = ⟨st, cmd, ph, lf, f, c, hr, ao, ps⟩ := rfl
@[simp] theorem Ctl.mk_motion (s : Ctl) :
    (⟨s.picker.state, s.picker.cmd, s.picker.phase, s.picker.lastFault, s.picker.failed, s.picker.carried, s.picker.homeRetry, s.picker.auditOffers, s.picker.passed⟩ : Motion)
      = s.motion := rfl
@[simp] theorem Ctl.setElem_motion (s : Ctl) (x : Element) (r : ElementRec) : (s.setElem x r).motion = s.motion := by simp [Ctl.motion]
@[simp] theorem Ctl.fill_motion (s : Ctl) (e : Element) (o : Occupancy) (en : Option Entry) : (Ctl.fill s e o en).motion = s.motion := by rfl
@[simp] theorem Ctl.reserveFor_motion (s : Ctl) (e : Element) (p : Option Requester) : (Ctl.reserveFor s e p).motion = s.motion := by rfl
@[simp] theorem Ctl.setChan_motion (s : Ctl) (x : Chan) (v : Channel) : (s.setChan x v).motion = s.motion := by simp [Ctl.motion]
@[simp] theorem Ctl.setTr_motion (s : Ctl) (x : Chan) (v : Transport) : (s.setTr x v).motion = s.motion := by simp [Ctl.motion]
@[simp] theorem Ctl.setLink_motion (s : Ctl) (x : Link) (v : LinkPort) : (s.setLink x v).motion = s.motion := by simp [Ctl.motion]
@[simp] theorem Ctl.setDoor_motion (s : Ctl) (x : Mag) (d : Door) : (s.setDoor x d).motion = s.motion := by simp [Ctl.motion]
@[simp] theorem Ctl.setMail_motion (s : Ctl) (v : MailSlot) : (s.setMail v).motion = s.motion := by simp [Ctl.motion]
@[simp] theorem Ctl.setPicker_motion (s : Ctl) (v : Picker) : (s.setPicker v).motion = v.motion := rfl
@[simp] theorem Ctl.setStore_motion (s : Ctl) (v : Store) : (s.setStore v).motion = s.motion := rfl
@[simp] theorem Ctl.setCat_motion (s : Ctl) (v : Catalog) : (s.setCat v).motion = s.motion := rfl

@[simp] theorem Ctl.setVerify_motion (s : Ctl) (v : VerifyUnit) : (s.setVerify v).motion = s.motion := rfl
@[simp] theorem Ctl.setRestore_motion (s : Ctl) (v : RestoreUnit) : (s.setRestore v).motion = s.motion := rfl
@[simp] theorem Ctl.setKey_motion (s : Ctl) (v : Key) : (s.setKey v).motion = s.motion := by simp [Ctl.motion]
@[simp] theorem Ctl.setProtectCode_motion (s : Ctl) (v : Protect) : (s.setProtectCode v).motion = s.motion := by simp [Ctl.motion]
@[simp] theorem Ctl.setClimate_motion (s : Ctl) (v : Climate) : (s.setClimate v).motion = s.motion := by simp [Ctl.motion]
@[simp] theorem Ctl.setDicts_motion (s : Ctl) (v : Dicts) : (s.setDicts v).motion = s.motion := by simp [Ctl.motion]
@[simp] theorem Ctl.setPanel_motion (s : Ctl) (v : PanelPort) : (s.setPanel v).motion = s.motion := by simp [Ctl.motion]
@[simp] theorem Ctl.setSession_motion (s : Ctl) (c : Chan) (x : Session) : (Ctl.setSession s c x).motion = s.motion := by rfl
@[simp] theorem Ctl.setBank_motion (s : Ctl) (c : Chan) (i : BankIx) (b : Bank) : (Ctl.setBank s c i b).motion = s.motion := by rfl
@[simp] theorem Ctl.notify_motion (s : Ctl) (p : Requester) (n : Notice) : (s.notify p n).motion = s.motion := by simp [Ctl.motion]
@[simp] theorem Ctl.notifyLink_motion (s : Ctl) (l : Link) (n : Notice) : (s.notifyLink l n).motion = s.motion := by simp [Ctl.motion]
@[simp] theorem Ctl.notifyOpt_motion (s : Ctl) (p : Option Requester) (n : Notice) : (s.notifyOpt p n).motion = s.motion := by simp [Ctl.motion]
@[simp] theorem Ctl.notifyAll_motion (s : Ctl) (n : Notice) : (s.notifyAll n).motion = s.motion := by simp [Ctl.motion]
@[simp] theorem Ctl.respond_motion (s : Ctl) (p : Requester) (tag : Nat) (code : Code) (r : Result) : (s.respond p tag code r).motion = s.motion := by simp [Ctl.motion]
@[simp] theorem Ctl.popRequest_motion (s : Ctl) (p : Requester) : (s.popRequest p).motion = s.motion := by simp [Ctl.motion]
theorem Ctl.takeRequest_motion (s : Ctl) (p : Requester) (r : Req) (f : Nat → Ctl → Ctl)
    (h : ∀ tag k, (f tag k).motion = k.motion) : (s.takeRequest p r f).motion = s.motion := by
  simp only [Ctl.takeRequest]
  (repeat' split) <;> simp [h]
@[simp] theorem Ctl.changed_motion (s : Ctl) : s.changed.motion = s.motion := rfl

theorem Ctl.foldl_motion {α : Type} (f : Ctl → α → Ctl) (h : ∀ s a, (f s a).motion = s.motion) (l : List α) (s : Ctl) :
    (l.foldl f s).motion = s.motion := by
  induction l generalizing s with
  | nil => rfl
  | cons a l ih => simp [ih, h]
@[simp] theorem Ctl.startCheckpoint_motion (s : Ctl) (served : List Requester) : (Ctl.startCheckpoint s served).motion = s.motion := by rfl
@[simp] theorem Ctl.askCheckpoint_motion (s : Ctl) (p : Option Requester) : (Ctl.askCheckpoint s p).motion = s.motion := by
  simp only [Ctl.askCheckpoint]
  split <;> simp
@[simp] theorem Ctl.autoCheckpoint_motion (s : Ctl) : (Ctl.autoCheckpoint s).motion = s.motion := by
  simp only [Ctl.autoCheckpoint]
  split <;> simp
@[simp] theorem Ctl.putCat_motion (s : Ctl) (k : Catalog) : (Ctl.putCat s k).motion = s.motion := by
  simp only [Ctl.putCat]
  split <;> simp
@[simp] theorem Ctl.modCart_motion (s : Ctl) (l : Label) (f : Cart → Cart) : (Ctl.modCart s l f).motion = s.motion := by simp [Ctl.modCart]
@[simp] theorem Ctl.modSet_motion (s : Ctl) (id : ℕ) (f : SetRec → SetRec) : (Ctl.modSet s id f).motion = s.motion := by simp [Ctl.modSet]
@[simp] theorem Ctl.setLoc_motion (s : Ctl) (l : Option Label) (loc : Option Element) : (Ctl.setLoc s l loc).motion = s.motion := by
  simp only [Ctl.setLoc]
  split <;> simp
@[simp] theorem Ctl.setCartState_motion (s : Ctl) (l : Label) (st : CartState) : (Ctl.setCartState s l st).motion = s.motion := by simp [Ctl.setCartState]
@[simp] theorem Ctl.addExtent_motion (s : Ctl) (id : ℕ) (x : Extent) : (Ctl.addExtent s id x).motion = s.motion := by simp [Ctl.addExtent]
@[simp] theorem Ctl.place_motion (s : Ctl) (e : Element) (en : Option Entry) : (Ctl.place s e en).motion = s.motion := by
  simp only [Ctl.place]
  (repeat' split) <;> simp
@[simp] theorem Ctl.catalogue_motion (s : Ctl) (l : Label) (e : Element) : (Ctl.catalogue s l e).motion = s.motion := by
  simp only [Ctl.catalogue]
  (repeat' split) <;> simp
theorem Ctl.newLabel_motion (s : Ctl) (e holder : Element) (rd : Option Label) : (s.newLabel e holder rd).1.motion = s.motion := by
  simp only [Ctl.newLabel]
  (repeat' split) <;> simp
@[simp] theorem Ctl.foundAt_motion (s : Ctl) (e : Element) (rd : Option Label) (acclim : Nat) : (s.foundAt e rd acclim).motion = s.motion := by
  simp [Ctl.foundAt, Ctl.newLabel_motion]
@[simp] theorem Ctl.auditElement_motion (s : Ctl) (e : Element) (r : ReadReport) (acclim : ℕ) : (Ctl.auditElement s e r acclim).motion = s.motion := by
  simp only [Ctl.auditElement]
  (repeat' split) <;> simp
@[simp] theorem Ctl.applyFetchLabel_motion (s : Ctl) (src : Element) (rd : LabelRead) (acclim : Nat) :
    (s.applyFetchLabel src rd acclim).motion = s.motion := by
  simp only [Ctl.applyFetchLabel]
  (repeat' split) <;> simp [Ctl.newLabel_motion]
@[simp] theorem Ctl.admitWaiting_motion (s : Ctl) : (Ctl.admitWaiting s).motion = s.motion := by
  simp only [Ctl.admitWaiting]
  (repeat' split) <;> simp
@[simp] theorem Ctl.judgeWarning_motion (s : Ctl) (l : Label) (set : ℕ) (owner : Link) : (Ctl.judgeWarning s l set owner).motion = s.motion := by
  simp only [Ctl.judgeWarning]
  (repeat' split) <;> simp
@[simp] theorem Ctl.setPresent_motion (s : Ctl) (c : Chan) (b : Bool) : (Ctl.setPresent s c b).motion = s.motion := by rfl
@[simp] theorem Ctl.thread_motion (s : Ctl) (c : Chan) (k : Task) : (Ctl.thread s c k).motion = s.motion := by rfl
@[simp] theorem Ctl.locate_motion (s : Ctl) (c : Chan) (pos : ℕ) (k : Task) : (Ctl.locate s c pos k).motion = s.motion := by rfl
@[simp] theorem Ctl.readBlock_motion (s : Ctl) (c : Chan) (k : Task) : (Ctl.readBlock s c k).motion = s.motion := by rfl
@[simp] theorem Ctl.writeBlock_motion (s : Ctl) (c : Chan) (bytes : List Byte) (k : Task) : (Ctl.writeBlock s c bytes k).motion = s.motion := by rfl
@[simp] theorem Ctl.readAt_motion (s : Ctl) (c : Chan) (pos : ℕ) (locate : Task) (read : Task) : (Ctl.readAt s c pos locate read).motion = s.motion := by
  simp only [Ctl.readAt]
  split <;> simp
@[simp] theorem Ctl.bringIn_motion (s : Ctl) (c : Chan) (thread : Task) (locate : Task) (read : Task) : (Ctl.bringIn s c thread locate read).motion = s.motion := by
  simp only [Ctl.bringIn]
  (repeat' split) <;> simp
@[simp] theorem Ctl.markSuspect_motion (s : Ctl) (c : Chan) : (Ctl.markSuspect s c).motion = s.motion := by
  simp only [Ctl.markSuspect]
  split <;> simp
@[simp] theorem Ctl.markUnknown_motion (s : Ctl) (c : Chan) : (Ctl.markUnknown s c).motion = s.motion := by
  simp only [Ctl.markUnknown]
  split <;> simp
@[simp] theorem Ctl.transportFaulted_motion (s : Ctl) (c : Chan) : (Ctl.transportFaulted s c).motion = s.motion := by
  simp only [Ctl.transportFaulted]
  split <;> simp
@[simp] theorem Ctl.mapOrders_motion (s : Ctl) (f : Order → Order) : (Ctl.mapOrders s f).motion = s.motion := by rfl
@[simp] theorem Ctl.pushOrder_motion (s : Ctl) (o : Order) (st : OrderState) : (Ctl.pushOrder s o st).motion = s.motion := by rfl
@[simp] theorem Ctl.enter_motion (s : Ctl) (o : Order) : (Ctl.enter s o).motion = s.motion := by
  simp only [Ctl.enter]
  (repeat' split) <;> simp
@[simp] theorem Ctl.admitFrom_motion (n : Nat) (s : Ctl) : (Ctl.admitFrom n s).motion = s.motion := by
  induction n generalizing s with
  | zero => rfl
  | succ n ih =>
    simp only [Ctl.admitFrom]
    (repeat' split) <;> simp [ih]
@[simp] theorem Ctl.admitHeld_motion (s : Ctl) : (Ctl.admitHeld s).motion = s.motion := by simp [Ctl.admitHeld]
@[simp] theorem Ctl.raiseOrder_motion (s : Ctl) (o : Order) : (Ctl.raiseOrder s o).motion = s.motion := by
  simp only [Ctl.raiseOrder]
  (repeat' split) <;> simp
@[simp] theorem Ctl.leave_motion (s : Ctl) (id : ℕ) : (Ctl.leave s id).motion = s.motion := by simp [Ctl.leave]
@[simp] theorem Ctl.withdraw_motion (s : Ctl) (p : Order → Bool) : (Ctl.withdraw s p).motion = s.motion := by simp [Ctl.withdraw]
@[simp] theorem Ctl.disown_motion (s : Ctl) (by' : Raiser) (unload : Bool) : (Ctl.disown s by' unload).motion = s.motion := by rfl
@[simp] theorem Ctl.raiseHome_motion (s : Ctl) (c : Chan) (p : Option Requester) (by' : Option Raiser) : (Ctl.raiseHome s c p by').motion = s.motion := by
  simp only [Ctl.raiseHome]
  split <;> simp
@[simp] theorem Ctl.unloadHome_motion (s : Ctl) (c : Chan) (p : Option Requester) (by' : Option Raiser) : (Ctl.unloadHome s c p by').motion = s.motion := by
  simp only [Ctl.unloadHome]
  (repeat' split) <;> simp
@[simp] theorem Ctl.clearTransport_motion (s : Ctl) (c : Chan) (p : Requester) (by' : Raiser) : (Ctl.clearTransport s c p by').motion = s.motion := by
  simp only [Ctl.clearTransport]
  (repeat' split) <;> simp
@[simp] theorem Ctl.raiseLoad_motion (s : Ctl) (c : Chan) (l : Label) (p : Requester) (by' : Raiser) (purpose : Purpose) : (Ctl.raiseLoad s c l p by' purpose).motion = s.motion := by simp [Ctl.raiseLoad]
@[simp] theorem Ctl.ejectReady_motion (s : Ctl) (c : Chan) : (Ctl.ejectReady s c).motion = s.motion := by rfl
@[simp] theorem Ctl.failEjectWait_motion (c : Chan) (n : Nat) (s : Ctl) : (Ctl.failEjectWait c n s).motion = s.motion := by
  induction n generalizing s with
  | zero => rfl
  | succ n ih =>
    simp only [Ctl.failEjectWait]
    split <;> simp [ih]
@[simp] theorem Ctl.ejectFailed_motion (s : Ctl) (c : Chan) : (Ctl.ejectFailed s c).motion = s.motion := by simp [Ctl.ejectFailed]
@[simp] theorem Ctl.sendPendingEject_motion (s : Ctl) (c : Chan) : (Ctl.sendPendingEject s c).motion = s.motion := by
  simp only [Ctl.sendPendingEject]
  (repeat' split) <;> simp
@[simp] theorem Ctl.transportReported_motion (s : Ctl) (c : Chan) (st : TransportState) (pos : ℕ) : (Ctl.transportReported s c st pos).motion = s.motion := by simp [Ctl.transportReported]
@[simp] theorem Ctl.modRestores_motion (s : Ctl) (f : RestoreCtx → RestoreCtx) : (Ctl.modRestores s f).motion = s.motion := by rfl
@[simp] theorem Ctl.modRestore_motion (s : Ctl) (id : ℕ) (f : RestoreCtx → RestoreCtx) : (Ctl.modRestore s id f).motion = s.motion := by rfl
@[simp] theorem Ctl.restoreLoad_motion (s : Ctl) (c : Chan) (r : RestoreCtx) : (Ctl.restoreLoad s c r).motion = s.motion := by
  simp only [Ctl.restoreLoad]
  (repeat' split) <;> simp
@[simp] theorem Ctl.restoreClears_motion (s : Ctl) (c : Chan) : (Ctl.restoreClears s c).motion = s.motion := by
  simp only [Ctl.restoreClears]
  (repeat' split) <;> simp
@[simp] theorem Ctl.restoreBegin_motion (s : Ctl) (c : Chan) (id : ℕ) : (Ctl.restoreBegin s c id).motion = s.motion := by
  simp only [Ctl.restoreBegin]
  split <;> simp
@[simp] theorem Ctl.modSession_motion (s : Ctl) (c : Chan) (f : Session → Session) : (Ctl.modSession s c f).motion = s.motion := by
  simp only [Ctl.modSession]
  split <;> simp
@[simp] theorem Ctl.closeBank_motion (s : Ctl) (c : Chan) (i : BankIx) : (Ctl.closeBank s c i).motion = s.motion := by
  simp only [Ctl.closeBank]
  split <;> simp
@[simp] theorem Ctl.startExpander_motion (s : Ctl) (c : Chan) (b : TapeBlock) : (Ctl.startExpander s c b).motion = s.motion := by
  simp only [Ctl.startExpander]
  (repeat' split) <;> simp
@[simp] theorem Ctl.stopExpander_motion (s : Ctl) (c : Chan) : (Ctl.stopExpander s c).motion = s.motion := by
  simp only [Ctl.stopExpander]
  (repeat' split) <;> simp
@[simp] theorem Ctl.closeFilling_motion (s : Ctl) (c : Chan) : (Ctl.closeFilling s c).motion = s.motion := by
  simp only [Ctl.closeFilling]
  split <;> simp
@[simp] theorem Ctl.grant_motion (s : Ctl) (c : Chan) : (Ctl.grant s c).motion = s.motion := by
  simp only [Ctl.grant]
  (repeat' split) <;> simp
@[simp] theorem Ctl.dropCredits_motion (s : Ctl) (c : Chan) : (Ctl.dropCredits s c).motion = s.motion := by
  simp only [Ctl.dropCredits]
  split <;> simp
@[simp] theorem Ctl.passChannel_motion (s : Ctl) (c : Chan) : (Ctl.passChannel s c).motion = s.motion := by
  simp only [Ctl.passChannel]
  split <;> simp
@[simp] theorem Ctl.endSession_motion (s : Ctl) (c : Chan) (unload : Bool) : (Ctl.endSession s c unload).motion = s.motion := by
  simp only [Ctl.endSession]
  (repeat' split) <;> simp
@[simp] theorem Ctl.sendSummary_motion (s : Ctl) (c : Chan) (k : Cart) (r : SetRec) (f : SummaryFlag) : (Ctl.sendSummary s c k r f).motion = s.motion := by
  simp only [Ctl.sendSummary]
  split <;> simp
theorem Ctl.trySummary_motion (s : Ctl) (c : Chan) (f : SummaryFlag) {t : Ctl} (h : s.trySummary c f = some t) : t.motion = s.motion := by
  simp only [Ctl.trySummary] at h
  (repeat' split at h) <;> simp at h
  subst h; simp
@[simp] theorem Ctl.finishAbort_motion (s : Ctl) (c : Chan) (summary : Bool) : (Ctl.finishAbort s c summary).motion = s.motion := by
  simp only [Ctl.finishAbort]
  (repeat' split) <;> simp
@[simp] theorem Ctl.abortProceed_motion (s : Ctl) (c : Chan) : (s.abortProceed c).motion = s.motion := by
  simp only [Ctl.abortProceed]
  (repeat' split) <;> try simp
  exact Ctl.trySummary_motion _ _ _ (by assumption)
@[simp] theorem Ctl.abort_motion (s : Ctl) (c : Chan) (reason : Code) (noSummary : Bool) (noUnload : Bool) : (Ctl.abort s c reason noSummary noUnload).motion = s.motion := by
  simp only [Ctl.abort]
  (repeat' split) <;> simp
@[simp] theorem Ctl.sessionsReset_motion (s : Ctl) : (Ctl.sessionsReset s).motion = s.motion := by simp [Ctl.sessionsReset]
@[simp] theorem Ctl.loadChosen_motion (s : Ctl) (c : Chan) (x : Session) (l : Label) : (Ctl.loadChosen s c x l).motion = s.motion := by simp [Ctl.loadChosen]
@[simp] theorem Ctl.choose_motion (s : Ctl) (c : Chan) : (Ctl.choose s c).motion = s.motion := by
  simp only [Ctl.choose]
  (repeat' split) <;> simp
@[simp] theorem Ctl.chooseAgain_motion (s : Ctl) (c : Chan) (unload : Bool) : (Ctl.chooseAgain s c unload).motion = s.motion := by
  simp only [Ctl.chooseAgain]
  (repeat' split) <;> simp
@[simp] theorem Ctl.endOpening_motion (s : Ctl) (c : Chan) (cause : Code) (unload : Bool) : (Ctl.endOpening s c cause unload).motion = s.motion := by
  simp only [Ctl.endOpening]
  split <;> simp
@[simp] theorem Ctl.rechoose_motion (s : Ctl) (c : Chan) : (Ctl.rechoose s c).motion = s.motion := by
  simp only [Ctl.rechoose]
  (repeat' split) <;> simp
@[simp] theorem Ctl.rechooseAll_motion (s : Ctl) : (Ctl.rechooseAll s).motion = s.motion := by simp [Ctl.rechooseAll]
@[simp] theorem Ctl.startCoding_motion (s : Ctl) (c : Chan) : (Ctl.startCoding s c).motion = s.motion := by
  simp only [Ctl.startCoding]
  (repeat' split) <;> simp
@[simp] theorem Ctl.syncClose_motion (s : Ctl) (c : Chan) : (Ctl.syncClose s c).motion = s.motion := by
  simp only [Ctl.syncClose]
  (repeat' split) <;> simp
@[simp] theorem Ctl.syncDone_motion (s : Ctl) (c : Chan) : (Ctl.syncDone s c).motion = s.motion := by
  simp only [Ctl.syncDone]
  (repeat' split) <;> simp
@[simp] theorem Ctl.becomeSuspended_motion (s : Ctl) (c : Chan) (x : Session) (kept : BankIx) (id : ℕ) : (Ctl.becomeSuspended s c x kept id).motion = s.motion := by
  simp only [Ctl.becomeSuspended]
  (repeat' split) <;> simp
@[simp] theorem Ctl.suspendTest_motion (s : Ctl) (c : Chan) : (Ctl.suspendTest s c).motion = s.motion := by
  simp only [Ctl.suspendTest]
  (repeat' split) <;> simp
@[simp] theorem Ctl.closeProceed_motion (s : Ctl) (c : Chan) : (s.closeProceed c).motion = s.motion := by
  simp only [Ctl.closeProceed]
  (repeat' split) <;> try simp
  exact Ctl.trySummary_motion _ _ _ (by assumption)
@[simp] theorem Ctl.judgeChannel_motion (s : Ctl) (c : Chan) : (Ctl.judgeChannel s c).motion = s.motion := by simp [Ctl.judgeChannel]
@[simp] theorem Ctl.enterStreaming_motion (s : Ctl) (c : Chan) : (Ctl.enterStreaming s c).motion = s.motion := by simp [Ctl.enterStreaming]
@[simp] theorem Ctl.beginSpan_motion (s : Ctl) (c : Chan) : (s.beginSpan c).motion = s.motion := by
  simp only [Ctl.beginSpan]
  split
  · split
    · simp
    · split
      · rename_i h
        rw [Ctl.trySummary_motion _ _ _ h]; simp
      · simp
  · rfl
@[simp] theorem Ctl.orderSpan_motion (s : Ctl) (c : Chan) (i : BankIx) : (Ctl.orderSpan s c i).motion = s.motion := by
  simp only [Ctl.orderSpan]
  (repeat' split) <;> simp
@[simp] theorem Ctl.sendData_motion (s : Ctl) (c : Chan) (k : Cart) (r : SetRec) (b : CodedBlock) : (Ctl.sendData s c k r b).motion = s.motion := by
  simp only [Ctl.sendData]
  split <;> simp
@[simp] theorem Ctl.freeBlock_motion (s : Ctl) (c : Chan) (i : BankIx) : (Ctl.freeBlock s c i).motion = s.motion := by rfl
@[simp] theorem Ctl.formatData_motion (s : Ctl) (c : Chan) (b : CodedBlock) : (Ctl.formatData s c b).motion = s.motion := by
  simp only [Ctl.formatData]
  (repeat' split) <;> simp
@[simp] theorem Ctl.coderResult_motion (s : Ctl) (c : Chan) : (Ctl.coderResult s c).motion = s.motion := by
  simp only [Ctl.coderResult]
  (repeat' split) <;> simp
@[simp] theorem Ctl.rewriteRetained_motion (s : Ctl) (c : Chan) : (Ctl.rewriteRetained s c).motion = s.motion := by
  simp only [Ctl.rewriteRetained]
  (repeat' split) <;> simp
@[simp] theorem Ctl.sessionReady_motion (s : Ctl) (c : Chan) : (Ctl.sessionReady s c).motion = s.motion := by
  simp only [Ctl.sessionReady]
  (repeat' split) <;> simp
@[simp] theorem Ctl.startVolumeWrite_motion (s : Ctl) (c : Chan) : (Ctl.startVolumeWrite s c).motion = s.motion := by rfl
@[simp] theorem Ctl.startVolumeCheck_motion (s : Ctl) (c : Chan) : (Ctl.startVolumeCheck s c).motion = s.motion := by simp [Ctl.startVolumeCheck]
@[simp] theorem Ctl.startEndCheck_motion (s : Ctl) (c : Chan) : (Ctl.startEndCheck s c).motion = s.motion := by
  simp only [Ctl.startEndCheck]
  split <;> simp
@[simp] theorem Ctl.beginAppend_motion (s : Ctl) (c : Chan) : (Ctl.beginAppend s c).motion = s.motion := by
  simp only [Ctl.beginAppend]
  (repeat' split) <;> simp
@[simp] theorem Ctl.sessionStart_motion (s : Ctl) (c : Chan) : (Ctl.sessionStart s c).motion = s.motion := by
  simp only [Ctl.sessionStart]
  (repeat' split) <;> simp
@[simp] theorem Ctl.sendVolume_motion (s : Ctl) (c : Chan) : (Ctl.sendVolume s c).motion = s.motion := by
  simp only [Ctl.sendVolume]
  (repeat' split) <;> simp
@[simp] theorem Ctl.spanReady_motion (s : Ctl) (c : Chan) (x : Session) : (Ctl.spanReady s c x).motion = s.motion := by
  simp only [Ctl.spanReady]
  split <;> simp
@[simp] theorem Ctl.prepareFailed_motion (s : Ctl) (c : Chan) (cause : Code) : (Ctl.prepareFailed s c cause).motion = s.motion := by
  simp only [Ctl.prepareFailed]
  (repeat' split) <;> simp
@[simp] theorem Ctl.prepareBroken_motion (s : Ctl) (c : Chan) : (Ctl.prepareBroken s c).motion = s.motion := by
  simp only [Ctl.prepareBroken]
  (repeat' split) <;> simp
@[simp] theorem Ctl.sessionThreaded_motion (s : Ctl) (c : Chan) (tab : Tab) : (Ctl.sessionThreaded s c tab).motion = s.motion := by
  simp only [Ctl.sessionThreaded]
  (repeat' split) <;> simp
@[simp] theorem Ctl.sessionResumed_motion (s : Ctl) (c : Chan) : (Ctl.sessionResumed s c).motion = s.motion := by
  simp only [Ctl.sessionResumed]
  split <;> simp
@[simp] theorem Ctl.sessionVolRead_motion (s : Ctl) (c : Chan) (r : ReadResult) : (Ctl.sessionVolRead s c r).motion = s.motion := by
  simp only [Ctl.sessionVolRead]
  (repeat' split) <;> simp
@[simp] theorem Ctl.sessionEndRead_motion (s : Ctl) (c : Chan) (r : ReadResult) : (Ctl.sessionEndRead s c r).motion = s.motion := by
  simp only [Ctl.sessionEndRead]
  (repeat' split) <;> simp
@[simp] theorem Ctl.sessionLoadFailed_motion (s : Ctl) (c : Chan) (reason : Code) : (Ctl.sessionLoadFailed s c reason).motion = s.motion := by
  simp only [Ctl.sessionLoadFailed]
  (repeat' split) <;> simp
@[simp] theorem Ctl.volumeWritten_motion (s : Ctl) (c : Chan) : (Ctl.volumeWritten s c).motion = s.motion := by
  simp only [Ctl.volumeWritten]
  (repeat' split) <;> simp
@[simp] theorem Ctl.countData_motion (s : Ctl) (x : Session) (l : Label) (b : CodedBlock) : (Ctl.countData s x l b).motion = s.motion := by simp [Ctl.countData]
@[simp] theorem Ctl.dataWritten_motion (s : Ctl) (c : Chan) (i : BankIx) : (Ctl.dataWritten s c i).motion = s.motion := by
  simp only [Ctl.dataWritten]
  (repeat' split) <;> simp
@[simp] theorem Ctl.offerVerify_motion (s : Ctl) (set : ℕ) (owner : Link) : (Ctl.offerVerify s set owner).motion = s.motion := by
  simp only [Ctl.offerVerify]
  (repeat' split) <;> simp
@[simp] theorem Ctl.closeComplete_motion (s : Ctl) (c : Chan) (x : Session) : (Ctl.closeComplete s c x).motion = s.motion := by
  simp only [Ctl.closeComplete]
  (repeat' split) <;> simp
@[simp] theorem Ctl.continuesWritten_motion (s : Ctl) (c : Chan) (x : Session) : (Ctl.continuesWritten s c x).motion = s.motion := by
  simp only [Ctl.continuesWritten]
  (repeat' split) <;> simp
@[simp] theorem Ctl.summaryWritten_motion (s : Ctl) (c : Chan) (f : SummaryFlag) : (Ctl.summaryWritten s c f).motion = s.motion := by
  simp only [Ctl.summaryWritten]
  (repeat' split) <;> simp
@[simp] theorem Ctl.sessionFault_motion (s : Ctl) (c : Chan) (t : Task) (media : Bool) : (Ctl.sessionFault s c t media).motion = s.motion := by
  simp only [Ctl.sessionFault]
  (repeat' split) <;> simp
@[simp] theorem Ctl.endOfMedia_motion (s : Ctl) (c : Chan) (i : BankIx) : (Ctl.endOfMedia s c i).motion = s.motion := by
  simp only [Ctl.endOfMedia]
  (repeat' split) <;> simp
@[simp] theorem Ctl.suspendAsk_motion (s : Ctl) (c : Chan) : (Ctl.suspendAsk s c).motion = s.motion := by
  simp only [Ctl.suspendAsk]
  split <;> simp
@[simp] theorem Ctl.suspendWithdrawn_motion (s : Ctl) (c : Chan) : (Ctl.suspendWithdrawn s c).motion = s.motion := by
  simp only [Ctl.suspendWithdrawn]
  (repeat' split) <;> simp
@[simp] theorem Ctl.sessionResume_motion (s : Ctl) (c : Chan) : (Ctl.sessionResume s c).motion = s.motion := by
  simp only [Ctl.sessionResume]
  (repeat' split) <;> simp
@[simp] theorem Ctl.finishChannel_motion (s : Ctl) (c : Chan) : (Ctl.finishChannel s c).motion = s.motion := by
  simp only [Ctl.finishChannel]
  (repeat' split) <;> simp
@[simp] theorem Ctl.finishDrain_motion (s : Ctl) (c : Chan) : (Ctl.finishDrain s c).motion = s.motion := by
  simp only [Ctl.finishDrain]
  (repeat' split) <;> simp
@[simp] theorem Ctl.finishDrains_motion (s : Ctl) : (Ctl.finishDrains s).motion = s.motion := by simp [Ctl.finishDrains]
@[simp] theorem Ctl.modVerify_motion (s : Ctl) (set : ℕ) (f : VerifyEntry → VerifyEntry) : (Ctl.modVerify s set f).motion = s.motion := by rfl
@[simp] theorem Ctl.dropVerify_motion (s : Ctl) (set : ℕ) : (Ctl.dropVerify s set).motion = s.motion := by rfl
@[simp] theorem Ctl.verifyReport_motion (s : Ctl) (v : VerifyEntry) (o : VerifyOutcome) (reason : Option Code) : (Ctl.verifyReport s v o reason).motion = s.motion := by
  simp only [Ctl.verifyReport]
  split <;> simp
@[simp] theorem Ctl.verifyLeave_motion (s : Ctl) (v : VerifyEntry) (c : Chan) (unload : Bool) (stopped : Bool) : (Ctl.verifyLeave s v c unload stopped).motion = s.motion := by
  simp only [Ctl.verifyLeave]
  (repeat' split) <;> simp
@[simp] theorem Ctl.verifyEnd_motion (s : Ctl) (v : VerifyEntry) (o : VerifyOutcome) (reason : Option Code) (unload : Bool) : (Ctl.verifyEnd s v o reason unload).motion = s.motion := by
  simp only [Ctl.verifyEnd]
  split <;> simp
@[simp] theorem Ctl.verifyStop_motion (s : Ctl) (v : VerifyEntry) (reason : Code) (unload : Bool) : (Ctl.verifyStop s v reason unload).motion = s.motion := by
  simp only [Ctl.verifyStop]
  split <;> simp
@[simp] theorem Ctl.verifyPause_motion (s : Ctl) (v : VerifyEntry) (c : Chan) : (Ctl.verifyPause s v c).motion = s.motion := by simp [Ctl.verifyPause]
@[simp] theorem Ctl.verifyAskPause_motion (s : Ctl) (c : Chan) : (Ctl.verifyAskPause s c).motion = s.motion := by
  simp only [Ctl.verifyAskPause]
  (repeat' split) <;> simp
@[simp] theorem Ctl.verifyLoad_motion (s : Ctl) (v : VerifyEntry) (c : Chan) (x : Extent) : (Ctl.verifyLoad s v c x).motion = s.motion := by
  simp only [Ctl.verifyLoad]
  (repeat' split) <;> simp
@[simp] theorem Ctl.verifyHome_motion (s : Ctl) (v : VerifyEntry) (c : Chan) (x : Extent) : (Ctl.verifyHome s v c x).motion = s.motion := by
  simp only [Ctl.verifyHome]
  (repeat' split) <;> simp
@[simp] theorem Ctl.verifyLocate_motion (s : Ctl) (v : VerifyEntry) (c : Chan) (x : Extent) : (Ctl.verifyLocate s v c x).motion = s.motion := by rfl
@[simp] theorem Ctl.verifyGo_motion (c : Chan) (n : Nat) (s : Ctl) : (Ctl.verifyGo c n s).motion = s.motion := by
  induction n generalizing s with
  | zero => rfl
  | succ n ih =>
    simp only [Ctl.verifyGo]
    (repeat' split) <;> simp [ih] <;> rfl
@[simp] theorem Ctl.verifyNext_motion (s : Ctl) (c : Chan) : (Ctl.verifyNext s c).motion = s.motion := by simp [Ctl.verifyNext]
@[simp] theorem Ctl.verifyExtentEnd_motion (s : Ctl) (v : VerifyEntry) (c : Chan) (x : Extent) : (Ctl.verifyExtentEnd s v c x).motion = s.motion := by
  simp only [Ctl.verifyExtentEnd]
  (repeat' split) <;> simp
@[simp] theorem Ctl.verifyContinue_motion (s : Ctl) (c : Chan) : (Ctl.verifyContinue s c).motion = s.motion := by
  simp only [Ctl.verifyContinue]
  (repeat' split) <;> simp
@[simp] theorem Ctl.verifyThreaded_motion (s : Ctl) (c : Chan) : (Ctl.verifyThreaded s c).motion = s.motion := by
  simp only [Ctl.verifyThreaded]
  (repeat' split) <;> simp
@[simp] theorem Ctl.verifyPositioned_motion (s : Ctl) (c : Chan) (read : Task) : (Ctl.verifyPositioned s c read).motion = s.motion := by
  simp only [Ctl.verifyPositioned]
  (repeat' split) <;> simp
@[simp] theorem Ctl.verifyExtentLost_motion (s : Ctl) (c : Chan) : (Ctl.verifyExtentLost s c).motion = s.motion := by
  simp only [Ctl.verifyExtentLost]
  (repeat' split) <;> simp
@[simp] theorem Ctl.verifyVolRead_motion (s : Ctl) (c : Chan) (r : ReadResult) : (Ctl.verifyVolRead s c r).motion = s.motion := by
  simp only [Ctl.verifyVolRead]
  (repeat' split) <;> simp
@[simp] theorem Ctl.verifyJudge_motion (s : Ctl) (v : VerifyEntry) (c : Chan) (b : TapeBlock) (good : Bool) : (Ctl.verifyJudge s v c b good).motion = s.motion := by
  simp only [Ctl.verifyJudge]
  (repeat' split) <;> simp
@[simp] theorem Ctl.verifyRead_motion (s : Ctl) (c : Chan) (r : ReadResult) : (Ctl.verifyRead s c r).motion = s.motion := by
  simp only [Ctl.verifyRead]
  (repeat' split) <;> simp
@[simp] theorem Ctl.verifyExpanded_motion (s : Ctl) (c : Chan) (b : TapeBlock) (d : Option DictSlot) : (Ctl.verifyExpanded s c b d).motion = s.motion := by
  simp only [Ctl.verifyExpanded]
  (repeat' split) <;> simp
@[simp] theorem Ctl.verifyFault_motion (s : Ctl) (c : Chan) (media : Bool) : (Ctl.verifyFault s c media).motion = s.motion := by
  simp only [Ctl.verifyFault]
  (repeat' split) <;> simp
@[simp] theorem Ctl.verifyLoadFailed_motion (s : Ctl) (reason : Code) : (Ctl.verifyLoadFailed s reason).motion = s.motion := by
  simp only [Ctl.verifyLoadFailed]
  split <;> simp
@[simp] theorem Ctl.verifyBegin_motion (s : Ctl) (v : VerifyEntry) (c : Chan) (place : ℕ) : (Ctl.verifyBegin s v c place).motion = s.motion := by simp [Ctl.verifyBegin]
@[simp] theorem Ctl.verifyLook_motion (l : List VerifyEntry) (s : Ctl) : (Ctl.verifyLook l s).motion = s.motion := by
  induction l generalizing s with
  | nil => rfl
  | cons v l ih =>
    simp only [Ctl.verifyLook]
    (repeat' split) <;> simp [ih]
@[simp] theorem Ctl.verifyStart_motion (s : Ctl) : (Ctl.verifyStart s).motion = s.motion := by
  simp only [Ctl.verifyStart]
  split <;> simp
@[simp] theorem Ctl.verifyRejudge_motion (s : Ctl) : (Ctl.verifyRejudge s).motion = s.motion := by
  simp only [Ctl.verifyRejudge]
  (repeat' split) <;> simp
@[simp] theorem Ctl.restoreClaim_motion (s : Ctl) (r : RestoreCtx) (c : Chan) : (Ctl.restoreClaim s r c).motion = s.motion := by rfl
theorem Ctl.restoreTry_motion (s : Ctl) (r : RestoreCtx) {t : Ctl} (h : s.restoreTry r = some t) : t.motion = s.motion := by
  simp only [Ctl.restoreTry] at h
  split at h <;> simp at h <;> subst h <;> simp
@[simp] theorem Ctl.restoreLook_motion (l : List RestoreCtx) (s : Ctl) : (Ctl.restoreLook l s).motion = s.motion := by
  induction l generalizing s with
  | nil => rfl
  | cons r l ih =>
    simp only [Ctl.restoreLook]
    split
    · rename_i h
      rw [ih, Ctl.restoreTry_motion _ _ h]; simp
    · simp [ih]
@[simp] theorem Ctl.dropRestore_motion (s : Ctl) (id : ℕ) : (Ctl.dropRestore s id).motion = s.motion := by rfl
@[simp] theorem Ctl.withdrawData_motion (s : Ctl) (l : Link) (c : Chan) : (Ctl.withdrawData s l c).motion = s.motion := by rfl
@[simp] theorem Ctl.restoreEnd_motion (s : Ctl) (r : RestoreCtx) (o : RestoreOutcome) (reason : Option Code) (unload : Bool) : (Ctl.restoreEnd s r o reason unload).motion = s.motion := by
  simp only [Ctl.restoreEnd]
  (repeat' split) <;> simp
@[simp] theorem Ctl.restoreRefused_motion (s : Ctl) (id : Nat) : (s.restoreRefused id).motion = s.motion := by
  simp only [Ctl.restoreRefused]
  split
  · split
    · rename_i h
      rw [Ctl.restoreTry_motion _ _ h]; simp
    · (repeat' split) <;> simp
  · rfl
@[simp] theorem Ctl.restoreOffer_motion (s : Ctl) (c : Chan) : (Ctl.restoreOffer s c).motion = s.motion := by
  simp only [Ctl.restoreOffer]
  (repeat' split) <;> simp
@[simp] theorem Ctl.beginSkip_motion (s : Ctl) (c : Chan) (r : RestoreCtx) (x : Option Extent) (reason : Code) (lost : Bool) : (Ctl.beginSkip s c r x reason lost).motion = s.motion := by simp [Ctl.beginSkip]
theorem Ctl.tellDamage_motion (s : Ctl) (r : RestoreCtx) (last : Nat) : (s.tellDamage r last).1.motion = s.motion := by
  simp only [Ctl.tellDamage]
  split <;> simp
@[simp] theorem Ctl.restoreSwitch_motion (c : Chan) (n : Nat) (s : Ctl) : (Ctl.restoreSwitch c n s).motion = s.motion := by
  induction n generalizing s with
  | zero => rfl
  | succ n ih =>
    simp only [Ctl.restoreSwitch]
    (repeat' split) <;> simp [ih, Ctl.tellDamage_motion]
@[simp] theorem Ctl.restoreNextExtent_motion (s : Ctl) (c : Chan) : (Ctl.restoreNextExtent s c).motion = s.motion := by
  simp only [Ctl.restoreNextExtent]
  split <;> simp
@[simp] theorem Ctl.seekContinue_motion (s : Ctl) (c : Chan) : (Ctl.seekContinue s c).motion = s.motion := by
  simp only [Ctl.seekContinue]
  (repeat' split) <;> simp
@[simp] theorem Ctl.restoreDamaged_motion (s : Ctl) (c : Chan) (reason : Code) (lost : Bool) : (Ctl.restoreDamaged s c reason lost).motion = s.motion := by
  simp only [Ctl.restoreDamaged]
  (repeat' split) <;> simp
@[simp] theorem Ctl.restoreReadNext_motion (s : Ctl) (c : Chan) : (Ctl.restoreReadNext s c).motion = s.motion := by
  simp only [Ctl.restoreReadNext]
  (repeat' split) <;> simp
@[simp] theorem Ctl.restoreVolRead_motion (s : Ctl) (c : Chan) (res : ReadResult) : (Ctl.restoreVolRead s c res).motion = s.motion := by
  simp only [Ctl.restoreVolRead]
  (repeat' split) <;> simp
@[simp] theorem Ctl.restoreExpand_motion (s : Ctl) (c : Chan) (b : TapeBlock) : (Ctl.restoreExpand s c b).motion = s.motion := by
  simp only [Ctl.restoreExpand]
  (repeat' split) <;> simp
@[simp] theorem Ctl.searchNext_motion (s : Ctl) (c : Chan) (r : RestoreCtx) : (Ctl.searchNext s c r).motion = s.motion := by
  simp only [Ctl.searchNext]
  (repeat' split) <;> simp
@[simp] theorem Ctl.restoreSearch_motion (s : Ctl) (c : Chan) (r : RestoreCtx) (res : ReadResult) : (Ctl.restoreSearch s c r res).motion = s.motion := by
  simp only [Ctl.restoreSearch]
  (repeat' split) <;> simp
@[simp] theorem Ctl.restoreDeliver_motion (s : Ctl) (c : Chan) (r : RestoreCtx) (res : ReadResult) : (Ctl.restoreDeliver s c r res).motion = s.motion := by
  simp only [Ctl.restoreDeliver]
  (repeat' split) <;> simp
@[simp] theorem Ctl.restoreSeek_motion (s : Ctl) (c : Chan) (r : RestoreCtx) (res : ReadResult) : (Ctl.restoreSeek s c r res).motion = s.motion := by
  simp only [Ctl.restoreSeek]
  (repeat' split) <;> simp
@[simp] theorem Ctl.restoreRead_motion (s : Ctl) (c : Chan) (res : ReadResult) : (Ctl.restoreRead s c res).motion = s.motion := by
  simp only [Ctl.restoreRead]
  (repeat' split) <;> simp
@[simp] theorem Ctl.restoreThreaded_motion (s : Ctl) (c : Chan) : (Ctl.restoreThreaded s c).motion = s.motion := by
  simp only [Ctl.restoreThreaded]
  split <;> simp
@[simp] theorem Ctl.restoreSend_motion (s : Ctl) (c : Chan) (r : RestoreCtx) (b : TapeBlock) (out : List Byte) (off : ℕ) (rec : ℕ) : (Ctl.restoreSend s c r b out off rec).motion = s.motion := by simp [Ctl.restoreSend]
@[simp] theorem Ctl.seekFound_motion (s : Ctl) (c : Chan) (r : RestoreCtx) (b : TapeBlock) (out : List Byte) :
    (s.seekFound c r b out).motion = s.motion := by
  simp only [Ctl.seekFound]
  (repeat' split) <;> simp [Ctl.tellDamage_motion]
@[simp] theorem Ctl.restoreExpanded_motion (s : Ctl) (c : Chan) (b : TapeBlock) (d : Option DictSlot) : (Ctl.restoreExpanded s c b d).motion = s.motion := by
  simp only [Ctl.restoreExpanded]
  (repeat' split) <;> simp
@[simp] theorem Ctl.restoreBlockDone_motion (s : Ctl) (c : Chan) (r : RestoreCtx) : (Ctl.restoreBlockDone s c r).motion = s.motion := by
  simp only [Ctl.restoreBlockDone]
  (repeat' split) <;> simp
@[simp] theorem Ctl.restoreFrameSent_motion (s : Ctl) (l : Link) (d : DataIn) : (Ctl.restoreFrameSent s l d).motion = s.motion := by
  simp only [Ctl.restoreFrameSent]
  (repeat' split) <;> simp
@[simp] theorem Ctl.restoreCredit_motion (s : Ctl) (l : Link) (c : Chan) (n : ℕ) : (Ctl.restoreCredit s l c n).motion = s.motion := by
  simp only [Ctl.restoreCredit]
  (repeat' split) <;> simp
@[simp] theorem Ctl.restoreFault_motion (s : Ctl) (c : Chan) (media : Bool) : (Ctl.restoreFault s c media).motion = s.motion := by
  simp only [Ctl.restoreFault]
  (repeat' split) <;> simp
@[simp] theorem Ctl.restoreLoadFailed_motion (s : Ctl) (c : Chan) (reason : Code) : (Ctl.restoreLoadFailed s c reason).motion = s.motion := by
  simp only [Ctl.restoreLoadFailed]
  split <;> simp
@[simp] theorem Ctl.restoreRejudge_motion (s : Ctl) (c : Chan) : (Ctl.restoreRejudge s c).motion = s.motion := by
  simp only [Ctl.restoreRejudge]
  (repeat' split) <;> simp
@[simp] theorem Ctl.judgeWaiting_motion (s : Ctl) : (Ctl.judgeWaiting s).motion = s.motion := by simp [Ctl.judgeWaiting]
@[simp] theorem Ctl.loadImage_motion (s : Ctl) (i : Image) : (Ctl.loadImage s i).motion = s.motion := by rfl
@[simp] theorem Ctl.notifyEach_motion (s : Ctl) (ps : List Requester) (n : Notice) : (s.notifyEach ps n).motion = s.motion :=
  Ctl.foldl_motion _ (fun _ _ => by simp) _ _
@[simp] theorem Ctl.startImageRead_motion (s : Ctl) : (Ctl.startImageRead s).motion = s.motion := by rfl
@[simp] theorem Ctl.startPending_motion (s : Ctl) : (Ctl.startPending s).motion = s.motion := by
  simp only [Ctl.startPending]
  split <;> simp
@[simp] theorem Ctl.afterCheckpoint_motion (s : Ctl) : (Ctl.afterCheckpoint s).motion = s.motion := by
  simp only [Ctl.afterCheckpoint]
  split <;> simp
@[simp] theorem Ctl.checkpointDone_motion (s : Ctl) : (Ctl.checkpointDone s).motion = s.motion := by simp [Ctl.checkpointDone]
@[simp] theorem Ctl.checkpointFailed_motion (s : Ctl) : (Ctl.checkpointFailed s).motion = s.motion := by simp [Ctl.checkpointFailed]
@[simp] theorem Ctl.modRecovery_motion (s : Ctl) (f : Recovery → Recovery) : (Ctl.modRecovery s f).motion = s.motion := by rfl
@[simp] theorem Ctl.recoveryEnd_motion (s : Ctl) (r : Recovery) (o : RecoverOutcome) (rebuilt left : Nat) (reason : Option Code) (unload : Bool) :
    (s.recoveryEnd r o rebuilt left reason unload).motion = s.motion := by
  simp only [Ctl.recoveryEnd]
  split <;> simp
@[simp] theorem Ctl.recoveryThreaded_motion (s : Ctl) (c : Chan) : (Ctl.recoveryThreaded s c).motion = s.motion := by simp [Ctl.recoveryThreaded]
@[simp] theorem Ctl.recoveryVolRead_motion (s : Ctl) (c : Chan) (res : ReadResult) : (Ctl.recoveryVolRead s c res).motion = s.motion := by
  simp only [Ctl.recoveryVolRead]
  (repeat' split) <;> simp
@[simp] theorem Ctl.recoveryApply_motion (s : Ctl) (r : Recovery) : (s.recoveryApply r).motion = s.motion := by
  simp only [Ctl.recoveryApply]
  rw [Ctl.recoveryEnd_motion, Ctl.foldl_motion _ (fun _ _ => by simp)]
  simp
@[simp] theorem Ctl.recoveryNext_motion (s : Ctl) (c : Chan) (r : Recovery) : (Ctl.recoveryNext s c r).motion = s.motion := by rfl
@[simp] theorem Ctl.recoveryRead_motion (s : Ctl) (c : Chan) (res : ReadResult) : (Ctl.recoveryRead s c res).motion = s.motion := by
  simp only [Ctl.recoveryRead]
  (repeat' split) <;> simp
@[simp] theorem Ctl.recoveryFault_motion (s : Ctl) (c : Chan) (media : Bool) : (Ctl.recoveryFault s c media).motion = s.motion := by
  simp only [Ctl.recoveryFault]
  (repeat' split) <;> simp
@[simp] theorem Ctl.recoveryLoadFailed_motion (s : Ctl) (reason : Code) : (Ctl.recoveryLoadFailed s reason).motion = s.motion := by
  simp only [Ctl.recoveryLoadFailed]
  split <;> simp
@[simp] theorem Ctl.recoveryRejudge_motion (s : Ctl) (c : Chan) : (Ctl.recoveryRejudge s c).motion = s.motion := by
  simp only [Ctl.recoveryRejudge]
  (repeat' split) <;> simp
@[simp] theorem Ctl.rejudgeOn_motion (s : Ctl) (c : Chan) : (Ctl.rejudgeOn s c).motion = s.motion := by
  simp only [Ctl.rejudgeOn]
  (repeat' split) <;> simp
@[simp] theorem Ctl.ejectFault_motion (s : Ctl) (c : Chan) : (Ctl.ejectFault s c).motion = s.motion := by
  simp only [Ctl.ejectFault]
  (repeat' split) <;> simp
@[simp] theorem Ctl.faultFor_motion (s : Ctl) (c : Chan) (k : Task) (media : Bool) : (Ctl.faultFor s c k media).motion = s.motion := by
  simp only [Ctl.faultFor]
  (repeat' split) <;> simp
@[simp] theorem Ctl.answerRefused_motion (s : Ctl) (c : Chan) : (Ctl.answerRefused s c).motion = s.motion := by
  simp only [Ctl.answerRefused]
  (repeat' split) <;> simp
@[simp] theorem Ctl.clearRefused_motion (s : Ctl) : (Ctl.clearRefused s).motion = s.motion := by
  simp only [Ctl.clearRefused]
  (repeat' split) <;> simp
@[simp] theorem Ctl.answerAll_motion (n : Nat) (s : Ctl) : (Ctl.answerAll n s).motion = s.motion := by
  induction n generalizing s with
  | zero => simp [Ctl.answerAll]
  | succ n ih =>
    simp only [Ctl.answerAll]
    split <;> simp [ih]
@[simp] theorem Ctl.answerRefusals_motion (s : Ctl) : (Ctl.answerRefusals s).motion = s.motion := by
  simp only [Ctl.answerRefusals]
  (repeat' split) <;> simp
@[simp] theorem Ctl.reloadCheckpoint_motion (s : Ctl) : (Ctl.reloadCheckpoint s).motion = s.motion := by
  simp only [Ctl.reloadCheckpoint]
  (repeat' split) <;> rfl
@[simp] theorem Ctl.reloadGoesOn_motion (s : Ctl) : (Ctl.reloadGoesOn s).motion = s.motion := by
  simp only [Ctl.reloadGoesOn]
  (repeat' split) <;> simp
@[simp] theorem Ctl.commandEnd_motion (s : Ctl) : (Ctl.commandEnd s).motion = s.motion := by simp [Ctl.commandEnd]
@[simp] theorem Ctl.refuseSuspension_motion (s : Ctl) (c : Chan) : (Ctl.refuseSuspension s c).motion = s.motion := by
  simp only [Ctl.refuseSuspension]
  (repeat' split) <;> simp
@[simp] theorem Ctl.expire_motion (s : Ctl) (set : ℕ) : (Ctl.expire s set).motion = s.motion := by
  simp only [Ctl.expire]
  split <;> simp
@[simp] theorem Ctl.reclaim_motion (s : Ctl) (l : Label) : (Ctl.reclaim s l).motion = s.motion := by simp [Ctl.reclaim]
@[simp] theorem Ctl.forget_motion (s : Ctl) (l : Label) : (Ctl.forget s l).motion = s.motion := by simp [Ctl.forget]
@[simp] theorem Ctl.judgeHold_motion (s : Ctl) : (Ctl.judgeHold s).motion = s.motion := by
  simp only [Ctl.judgeHold]
  (repeat' split) <;> simp
@[simp] theorem Ctl.setResult_motion (s : Ctl) (w : WatchId) (r : WatchResult) : (Ctl.setResult s w r).motion = s.motion := by rfl
@[simp] theorem Ctl.clearFailures_motion (s : Ctl) : (Ctl.clearFailures s).motion = s.motion := by
  simp only [Ctl.clearFailures]
  split <;> simp
@[simp] theorem Ctl.restartSampling_motion (s : Ctl) (first : WatchId) : (Ctl.restartSampling s first).motion = s.motion := by
  simp only [Ctl.restartSampling]
  (repeat' split) <;> simp
@[simp] theorem Ctl.readingFailed_motion (s : Ctl) (w : WatchId) : (Ctl.readingFailed s w).motion = s.motion := by
  simp only [Ctl.readingFailed]
  split <;> simp
@[simp] theorem Ctl.readingDone_motion (s : Ctl) (w : WatchId) (v : ℤ) : (Ctl.readingDone s w v).motion = s.motion := by
  simp only [Ctl.readingDone]
  split <;> simp
@[simp] theorem Ctl.resetClimate_motion (s : Ctl) : (Ctl.resetClimate s).motion = s.motion := by simp [Ctl.resetClimate]
@[simp] theorem Ctl.rewriteWatch_motion (s : Ctl) (w : WatchId) (x : Watch) : (Ctl.rewriteWatch s w x).motion = s.motion := by simp [Ctl.rewriteWatch]
@[simp] theorem Ctl.clearAcclim_motion (s : Ctl) (e : Element) : (Ctl.clearAcclim s e).motion = s.motion := by rfl
@[simp] theorem Ctl.sample_motion (s : Ctl) : (Ctl.sample s).motion = s.motion := by
  simp only [Ctl.sample]
  split <;> simp
@[simp] theorem Ctl.sensorAnswer_motion (s : Ctl) (r : SensorReply) : (Ctl.sensorAnswer s r).motion = s.motion := by
  simp only [Ctl.sensorAnswer]
  (repeat' split) <;> simp
@[simp] theorem Ctl.sensorSilent_motion (s : Ctl) : (Ctl.sensorSilent s).motion = s.motion := by
  simp only [Ctl.sensorSilent]
  split <;> simp
@[simp] theorem Ctl.doorTest_motion (s : Ctl) (m : Mag) : (Ctl.doorTest s m).motion = s.motion := by
  simp only [Ctl.doorTest]
  split <;> simp
@[simp] theorem Ctl.doorTests_motion (s : Ctl) : (Ctl.doorTests s).motion = s.motion := by simp [Ctl.doorTests]
@[simp] theorem Ctl.doorLocked_motion (s : Ctl) (m : Mag) : (Ctl.doorLocked s m).motion = s.motion := by simp [Ctl.doorLocked]
@[simp] theorem Ctl.notifyAsked_motion (s : Ctl) (asked : PerLink Bool) (n : Notice) : (Ctl.notifyAsked s asked n).motion = s.motion := by
  simp only [Ctl.notifyAsked]
  (repeat' split) <;> simp
@[simp] theorem Ctl.doorRefused_motion (s : Ctl) (m : Mag) (cause : Code) : (Ctl.doorRefused s m cause).motion = s.motion := by simp [Ctl.doorRefused]
@[simp] theorem Ctl.slotsUncertain_motion (s : Ctl) (m : Mag) : (s.slotsUncertain m).motion = s.motion :=
  Ctl.foldl_motion _ (fun _ _ => by simp) _ _
@[simp] theorem Ctl.doorOpened_motion (s : Ctl) (m : Mag) : (Ctl.doorOpened s m).motion = s.motion := by simp [Ctl.doorOpened]
@[simp] theorem Ctl.doorSwitchShut_motion (s : Ctl) (m : Mag) : (Ctl.doorSwitchShut s m).motion = s.motion := by
  simp only [Ctl.doorSwitchShut]
  split <;> simp
@[simp] theorem Ctl.mailUncertain_motion (s : Ctl) : (Ctl.mailUncertain s).motion = s.motion := by rfl
@[simp] theorem Ctl.releaseImport_motion (s : Ctl) (slot : Option (Fin 24)) (p : Option Requester) : (Ctl.releaseImport s slot p).motion = s.motion := by
  simp only [Ctl.releaseImport]
  (repeat' split) <;> simp
@[simp] theorem Ctl.endImport_motion (s : Ctl) : (Ctl.endImport s).motion = s.motion := by
  simp only [Ctl.endImport]
  (repeat' split) <;> simp
@[simp] theorem Ctl.mailShut_motion (s : Ctl) (o : Order) : (Ctl.mailShut s o).motion = s.motion := by simp [Ctl.mailShut]
@[simp] theorem Ctl.forcedShut_motion (s : Ctl) : (Ctl.forcedShut s).motion = s.motion := by
  simp only [Ctl.forcedShut]
  (repeat' split) <;> simp
@[simp] theorem Ctl.mailOpenExport_motion (s : Ctl) (p : Option Requester) (l : Label) : (Ctl.mailOpenExport s p l).motion = s.motion := by
  simp only [Ctl.mailOpenExport]
  (repeat' split) <;> simp
@[simp] theorem Ctl.mailSwitchOpened_motion (s : Ctl) : (Ctl.mailSwitchOpened s).motion = s.motion := by
  simp only [Ctl.mailSwitchOpened]
  split <;> simp
@[simp] theorem Ctl.mailSwitchShut_motion (s : Ctl) : (Ctl.mailSwitchShut s).motion = s.motion := by
  simp only [Ctl.mailSwitchShut]
  (repeat' split) <;> first | rfl | simp
@[simp] theorem Ctl.mailCancelled_motion (s : Ctl) (cause : Code) : (Ctl.mailCancelled s cause).motion = s.motion := by
  simp only [Ctl.mailCancelled]
  (repeat' split) <;> simp
@[simp] theorem Ctl.askExpired_motion (s : Ctl) (m : Mag) : (Ctl.askExpired s m).motion = s.motion := by
  simp only [Ctl.askExpired]
  split <;> simp
@[simp] theorem Ctl.openExpired_motion (s : Ctl) (m : Mag) : (Ctl.openExpired s m).motion = s.motion := by
  simp only [Ctl.openExpired]
  split <;> simp
@[simp] theorem Ctl.mailExpired_motion (s : Ctl) : (Ctl.mailExpired s).motion = s.motion := by
  simp only [Ctl.mailExpired]
  split <;> simp
@[simp] theorem Ctl.modOrder_motion (s : Ctl) (id : ℕ) (f : Order → Order) : (Ctl.modOrder s id f).motion = s.motion := by rfl
@[simp] theorem Ctl.mailEnd_motion (s : Ctl) (o : Order) (reason : Option Code) (l : Option Label) : (Ctl.mailEnd s o reason l).motion = s.motion := by
  simp only [Ctl.mailEnd]
  (repeat' split) <;> simp
@[simp] theorem Ctl.loadFailed_motion (s : Ctl) (o : Order) (reason : Code) : (Ctl.loadFailed s o reason).motion = s.motion := by
  simp only [Ctl.loadFailed]
  (repeat' split) <;> simp
@[simp] theorem Ctl.orderFailed_motion (s : Ctl) (o : Order) (reason : Code) (l : Option Label) : (Ctl.orderFailed s o reason l).motion = s.motion := by simp [Ctl.orderFailed]
@[simp] theorem Ctl.loadThread_motion (s : Ctl) (o : Order) (c : Chan) : (Ctl.loadThread s o c).motion = s.motion := by
  simp only [Ctl.loadThread]
  (repeat' split) <;> simp
@[simp] theorem Ctl.loadDone_motion (s : Ctl) (o : Order) (c : Chan) : (Ctl.loadDone s o c).motion = s.motion := by
  simp only [Ctl.loadDone]
  (repeat' split) <;> simp
@[simp] theorem Ctl.presentUnthreaded_motion (s : Ctl) (c : Chan) : (Ctl.presentUnthreaded s c).motion = s.motion := by rfl
@[simp] theorem Ctl.setDown_motion (s : Ctl) (e : Element) (f : Entry → Entry) : (Ctl.setDown s e f).motion = s.motion := by simp [Ctl.setDown]
@[simp] theorem Ctl.outside_motion (s : Ctl) (p : Cart → Element → Bool) : (Ctl.outside s p).motion = s.motion := by simp [Ctl.outside]
@[simp] theorem Ctl.auditOutside_motion (s : Ctl) (m : Mag) : (Ctl.auditOutside s m).motion = s.motion := by simp [Ctl.auditOutside]
@[simp] theorem Ctl.scanOutside_motion (s : Ctl) : (Ctl.scanOutside s).motion = s.motion := by simp [Ctl.scanOutside]
@[simp] theorem Ctl.scanTransport_motion (s : Ctl) (o : Order) (c : Chan) : (Ctl.scanTransport s o c).motion = s.motion := by
  simp only [Ctl.scanTransport]
  (repeat' split) <;> simp
@[simp] theorem Ctl.exportScan_motion (s : Ctl) (p : Requester) (l : Label) (r : ReadReport) : (Ctl.exportScan s p l r).motion = s.motion := by
  simp only [Ctl.exportScan]
  (repeat' split) <;> simp
@[simp] theorem Ctl.gripperBack_motion (s : Ctl) (o : Order) : (Ctl.gripperBack s o).motion = s.motion := by
  simp only [Ctl.gripperBack]
  (repeat' split) <;> simp
@[simp] theorem Ctl.transportFetched_motion (s : Ctl) (e : Element) : (Ctl.transportFetched s e).motion = s.motion := by
  simp only [Ctl.transportFetched]
  split <;> simp
@[simp] theorem Ctl.importFetched_motion (s : Ctl) (rd : LabelRead) : (s.importFetched rd).motion = s.motion := by
  simp [Ctl.importFetched, Ctl.newLabel_motion]
@[simp] theorem Ctl.fetchLabel_motion (s : Ctl) (o : Order) (src : Element) (rd : LabelRead) : (Ctl.fetchLabel s o src rd).motion = s.motion := by
  simp only [Ctl.fetchLabel]
  (repeat' split) <;> simp
@[simp] theorem Ctl.askDoor_motion (s : Ctl) (p : Requester) (m : Mag) : (Ctl.askDoor s p m).motion = s.motion := by simp [Ctl.askDoor]
@[simp] theorem Ctl.markGranted_motion (s : Ctl) (m : Mag) (l : Link) : (Ctl.markGranted s m l).motion = s.motion := by rfl
@[simp] theorem Ctl.mailOpenImport_motion (s : Ctl) (p : Requester) (dest : Option (Fin 24)) : (Ctl.mailOpenImport s p dest).motion = s.motion := by
  simp only [Ctl.mailOpenImport]
  split <;> simp
@[simp] theorem Ctl.beginExport_motion (s : Ctl) (p : Requester) (l : Label) (e : Element) : (Ctl.beginExport s p l e).motion = s.motion := by
  simp only [Ctl.beginExport]
  split <;> simp
@[simp] theorem Ctl.beginRestore_motion (s : Ctl) (r : RestoreCtx) : (s.beginRestore r).motion = s.motion := by
  simp only [Ctl.beginRestore]
  split
  · exact Ctl.restoreTry_motion _ _ (by assumption)
  · simp
@[simp] theorem Ctl.creditFrame_motion (s : Ctl) (l : Link) (ch : ℕ) (count : ℕ) : (Ctl.creditFrame s l ch count).motion = s.motion := by
  simp only [Ctl.creditFrame]
  (repeat' split) <;> simp
@[simp] theorem Ctl.stallExpired_motion (s : Ctl) (c : Chan) : (Ctl.stallExpired s c).motion = s.motion := by
  simp only [Ctl.stallExpired]
  (repeat' split) <;> simp
@[simp] theorem Ctl.placeRestores_motion (s : Ctl) : (Ctl.placeRestores s).motion = s.motion := by simp [Ctl.placeRestores]
@[simp] theorem Ctl.requestArrives_motion (s : Ctl) (p : Requester) (q : QueuedReq) : (Ctl.requestArrives s p q).motion = s.motion := by
  simp only [Ctl.requestArrives]
  (repeat' split) <;> simp
@[simp] theorem Ctl.refuseBad_motion (s : Ctl) (p : Requester) : (Ctl.refuseBad s p).motion = s.motion := by
  simp only [Ctl.refuseBad]
  (repeat' split) <;> simp
@[simp] theorem Ctl.kick_motion (s : Ctl) (l : Link) : (Ctl.kick s l).motion = s.motion := by rfl
@[simp] theorem Ctl.frameSent_motion (s : Ctl) (l : Link) : (Ctl.frameSent s l).motion = s.motion := by
  simp only [Ctl.frameSent]
  (repeat' split) <;> simp
@[simp] theorem Ctl.grantFor_motion (s : Ctl) (l : Link) (c : Chan) : (Ctl.grantFor s l c).motion = s.motion := by
  simp only [Ctl.grantFor]
  (repeat' split) <;> simp
@[simp] theorem Ctl.askBack_motion (s : Ctl) (l : Link) (m : Mag) : (Ctl.askBack s l m).motion = s.motion := by
  simp only [Ctl.askBack]
  split <;> simp
@[simp] theorem Ctl.lockGained_motion (s : Ctl) (l : Link) : (Ctl.lockGained s l).motion = s.motion := by
  simp only [Ctl.lockGained]
  split <;> simp
@[simp] theorem Ctl.dropCreditsOf_motion (s : Ctl) (l : Link) (c : Chan) : (Ctl.dropCreditsOf s l c).motion = s.motion := by
  simp only [Ctl.dropCreditsOf]
  (repeat' split) <;> simp
@[simp] theorem Ctl.lockLost_motion (s : Ctl) (l : Link) : (Ctl.lockLost s l).motion = s.motion := by
  simp only [Ctl.lockLost]
  split <;> simp
@[simp] theorem Ctl.beginRecovery_motion (s : Ctl) (p : Requester) (l : Label) (c : Chan) : (Ctl.beginRecovery s p l c).motion = s.motion := by
  simp only [Ctl.beginRecovery]
  (repeat' split) <;> simp
@[simp] theorem Ctl.eraseDone_motion (s : Ctl) : (Ctl.eraseDone s).motion = s.motion := by
  simp only [Ctl.eraseDone]
  split <;> simp
@[simp] theorem Ctl.programDone_motion (s : Ctl) (pageMatches : Bool) (lastPage : Bool) : (Ctl.programDone s pageMatches lastPage).motion = s.motion := by
  simp only [Ctl.programDone]
  (repeat' split) <;> simp
@[simp] theorem Ctl.commitDone_motion (s : Ctl) : (Ctl.commitDone s).motion = s.motion := by
  simp only [Ctl.commitDone]
  split <;> simp
@[simp] theorem Ctl.reloadScan_motion (s : Ctl) : (Ctl.reloadScan s).motion = s.motion := by
  simp only [Ctl.reloadScan]
  (repeat' split) <;> simp <;> rfl
@[simp] theorem Ctl.reloadOver_motion (s : Ctl) : (Ctl.reloadOver s).motion = s.motion := by rfl
@[simp] theorem Ctl.claimsReset_motion (s : Ctl) : s.claimsReset.motion = s.motion := by
  simp only [Ctl.claimsReset]
  rw [Ctl.foldl_motion _ (fun _ _ => by simp)]; simp
@[simp] theorem Ctl.restoresReset_motion (s : Ctl) : s.restoresReset.motion = s.motion := by
  simp only [Ctl.restoresReset]
  rw [Ctl.foldl_motion]
  intro s a; split <;> simp
@[simp] theorem Ctl.verifyReset_motion (s : Ctl) : s.verifyReset.motion = s.motion := by
  simp only [Ctl.verifyReset]
  rw [Ctl.foldl_motion]
  intro s a; split <;> simp
@[simp] theorem Ctl.recoveryReset_motion (s : Ctl) : (Ctl.recoveryReset s).motion = s.motion := by
  simp only [Ctl.recoveryReset]
  split <;> simp
@[simp] theorem Ctl.activitiesReset_motion (s : Ctl) : s.activitiesReset.motion = s.motion := by simp [Ctl.activitiesReset]
@[simp] theorem Ctl.reloadRead_motion (s : Ctl) (good : Bool) : (Ctl.reloadRead s good).motion = s.motion := by
  simp only [Ctl.reloadRead]
  (repeat' split) <;> simp
@[simp] theorem Ctl.flashFailed_motion (s : Ctl) : (Ctl.flashFailed s).motion = s.motion := by
  simp only [Ctl.flashFailed]
  split <;> simp
@[simp] theorem Ctl.imageRead_motion (s : Ctl) (intact : Bool) : (Ctl.imageRead s intact).motion = s.motion := by
  simp only [Ctl.imageRead]
  split <;> simp
@[simp] theorem Ctl.resetPort_motion (s : Ctl) (l : Link) (cause : ResetCause) : (Ctl.resetPort s l cause).motion = s.motion := by rfl
@[simp] theorem Ctl.dropReservations_motion (s : Ctl) (p : Requester → Bool) : (Ctl.dropReservations s p).motion = s.motion := by rfl
@[simp] theorem Ctl.doorLinkReset_motion (s : Ctl) (l : Link) (m : Mag) : (Ctl.doorLinkReset s l m).motion = s.motion := by
  simp only [Ctl.doorLinkReset]
  (repeat' split) <;> simp
@[simp] theorem Ctl.askAgain_motion (s : Ctl) (l : Link) (m : Mag) : (Ctl.askAgain s l m).motion = s.motion := by
  simp only [Ctl.askAgain]
  split <;> simp
@[simp] theorem Ctl.queueLinkReset_motion (s : Ctl) (l : Link) : (Ctl.queueLinkReset s l).motion = s.motion := by simp [Ctl.queueLinkReset]
@[simp] theorem Ctl.sessionLinkReset_motion (s : Ctl) (l : Link) (c : Chan) : (Ctl.sessionLinkReset s l c).motion = s.motion := by
  simp only [Ctl.sessionLinkReset]
  (repeat' split) <;> simp
@[simp] theorem Ctl.restoreLinkReset_motion (s : Ctl) (l : Link) : (s.restoreLinkReset l).motion = s.motion := by
  simp only [Ctl.restoreLinkReset]
  rw [Ctl.foldl_motion]
  · simp
  · intro s a; split <;> simp
@[simp] theorem Ctl.recoveryLinkReset_motion (s : Ctl) (l : Link) : (Ctl.recoveryLinkReset s l).motion = s.motion := by
  simp only [Ctl.recoveryLinkReset]
  (repeat' split) <;> simp
@[simp] theorem Ctl.verifyLinkReset_motion (s : Ctl) (l : Link) : (s.verifyLinkReset l).motion = s.motion := by
  simp only [Ctl.verifyLinkReset]
  rw [Ctl.foldl_motion]
  intro s a; split <;> simp
@[simp] theorem Ctl.linkReset_motion (s : Ctl) (l : Link) (cause : ResetCause) : (Ctl.linkReset s l cause).motion = s.motion := by simp [Ctl.linkReset]
@[simp] theorem Ctl.offlineExpired_motion (s : Ctl) (l : Link) : (Ctl.offlineExpired s l).motion = s.motion := by
  simp only [Ctl.offlineExpired]
  split <;> simp
@[simp] theorem Ctl.portsReset_motion (s : Ctl) (keep : List Response) (cause : ResetCause) : (Ctl.portsReset s keep cause).motion = s.motion := by simp [Ctl.portsReset]
@[simp] theorem Ctl.removedNotice_motion (s : Ctl) (queued : Bool) (o : Order) : (Ctl.removedNotice s queued o).motion = s.motion := by
  simp only [Ctl.removedNotice]
  split <;> simp
@[simp] theorem Ctl.doorReset_motion (s : Ctl) (m : Mag) : (Ctl.doorReset s m).motion = s.motion := by
  simp only [Ctl.doorReset]
  split <;> simp
@[simp] theorem Ctl.transportReset_motion (s : Ctl) (c : Chan) : (Ctl.transportReset s c).motion = s.motion := by
  simp only [Ctl.transportReset]
  split <;> simp
@[simp] theorem Ctl.beginReload_motion (s : Ctl) : (Ctl.beginReload s).motion = s.motion := by rfl
@[simp] theorem Ctl.withoutLost_motion (s : Ctl) : (Ctl.withoutLost s).motion = s.motion := by rfl
@[simp] theorem Ctl.loadAtPowerUp_motion (s : Ctl) : (Ctl.loadAtPowerUp s).motion = s.motion := by
  simp only [Ctl.loadAtPowerUp]
  split <;> simp
@[simp] theorem Ctl.faultAtPowerUp_motion (s : Ctl) (c : Chan) : (Ctl.faultAtPowerUp s c).motion = s.motion := by
  simp only [Ctl.faultAtPowerUp]
  split <;> simp
@[simp] theorem Ctl.createSet_motion (s : Ctl) (owner : Link) (dict : ℕ) (ret : ℕ) (today : ℕ) : (Ctl.createSet s owner dict ret today).motion = s.motion := by simp [Ctl.createSet]
@[simp] theorem Ctl.beginSession_motion (s : Ctl) (c : Chan) (x : Session) : (Ctl.beginSession s c x).motion = s.motion := by
  simp only [Ctl.beginSession]
  split <;> simp
@[simp] theorem Ctl.beginSync_motion (s : Ctl) (c : Chan) : (Ctl.beginSync s c).motion = s.motion := by simp [Ctl.beginSync]
@[simp] theorem Ctl.beginClose_motion (s : Ctl) (c : Chan) : (Ctl.beginClose s c).motion = s.motion := by simp [Ctl.beginClose]
@[simp] theorem Ctl.closeIfFull_motion (s : Ctl) (c : Chan) (i : BankIx) : (Ctl.closeIfFull s c i).motion = s.motion := by
  simp only [Ctl.closeIfFull]
  split <;> simp
@[simp] theorem Ctl.placeData_motion (s : Ctl) (c : Chan) (kept : Option BankIx) (bytes : List Byte) (eor : Bool) : (Ctl.placeData s c kept bytes eor).motion = s.motion := by
  simp only [Ctl.placeData]
  (repeat' split) <;> simp
@[simp] theorem Ctl.dataFrame_motion (s : Ctl) (l : Link) (c : Chan) (eor : Bool) (bytes : List Byte) : (Ctl.dataFrame s l c eor bytes).motion = s.motion := by
  simp only [Ctl.dataFrame]
  (repeat' split) <;> simp
@[simp] theorem Ctl.linkDamaged_motion (s : Ctl) (l : Link) : (s.linkDamaged l).motion = s.motion := by
  simp only [Ctl.linkDamaged]
  rw [Ctl.foldl_motion]
  intro s a; (repeat' split) <;> simp
@[simp] theorem Ctl.dataOut_motion (s : Ctl) (l : Link) (ch : ℕ) (flags : ℕ) (payload : List Byte) : (Ctl.dataOut s l ch flags payload).motion = s.motion := by
  simp only [Ctl.dataOut]
  (repeat' split) <;> simp
@[simp] theorem Ctl.frameDamaged_motion (s : Ctl) (p : Requester) : (Ctl.frameDamaged s p).motion = s.motion := by
  simp only [Ctl.frameDamaged]
  (repeat' split) <;> simp
@[simp] theorem Ctl.coderReport_motion (s : Ctl) (c : Chan) : (Ctl.coderReport s c).motion = s.motion := by simp [Ctl.coderReport]
@[simp] theorem Ctl.expanderDone_motion (s : Ctl) (c : Chan) : (Ctl.expanderDone s c).motion = s.motion := by
  simp only [Ctl.expanderDone]
  (repeat' split) <;> simp
@[simp] theorem Ctl.needExpired_motion (s : Ctl) (c : Chan) : (Ctl.needExpired s c).motion = s.motion := by
  simp only [Ctl.needExpired]
  (repeat' split) <;> simp
@[simp] theorem Ctl.writeTab_motion (s : Ctl) (c : Chan) (t : TabReport) : (Ctl.writeTab s c t).motion = s.motion := by rfl
@[simp] theorem Ctl.threadedFor_motion (s : Ctl) (c : Chan) (k : Task) (tab : Tab) : (Ctl.threadedFor s c k tab).motion = s.motion := by
  simp only [Ctl.threadedFor]
  split <;> simp
@[simp] theorem Ctl.threadedReport_motion (s : Ctl) (c : Chan) (t : TabReport) : (Ctl.threadedReport s c t).motion = s.motion := by
  simp only [Ctl.threadedReport]
  (repeat' split) <;> simp
@[simp] theorem Ctl.ejectedReport_motion (s : Ctl) (c : Chan) : (Ctl.ejectedReport s c).motion = s.motion := by
  simp only [Ctl.ejectedReport]
  split <;> simp
@[simp] theorem Ctl.writeInHand_motion (s : Ctl) (c : Chan) (i : BankIx) : (Ctl.writeInHand s c i).motion = s.motion := by
  simp only [Ctl.writeInHand]
  (repeat' split) <;> simp
@[simp] theorem Ctl.summaryRefused_motion (s : Ctl) (c : Chan) (f : SummaryFlag) : (Ctl.summaryRefused s c f).motion = s.motion := by
  simp only [Ctl.summaryRefused]
  split <;> simp
@[simp] theorem Ctl.writeSummary_motion (s : Ctl) (c : Chan) (f : SummaryFlag) : (Ctl.writeSummary s c f).motion = s.motion := by
  simp only [Ctl.writeSummary]
  (repeat' split) <;> simp
@[simp] theorem Ctl.sessionReads_motion (s : Ctl) (c : Chan) (k : Task) : (Ctl.sessionReads s c k).motion = s.motion := by
  simp only [Ctl.sessionReads]
  (repeat' split) <;> simp
@[simp] theorem Ctl.positionedFor_motion (s : Ctl) (c : Chan) (k : Task) : (Ctl.positionedFor s c k).motion = s.motion := by
  simp only [Ctl.positionedFor]
  split <;> simp
@[simp] theorem Ctl.located_motion (s : Ctl) (c : Chan) (o : TOrder) (pos : ℕ) : (Ctl.located s c o pos).motion = s.motion := by simp [Ctl.located]
@[simp] theorem Ctl.positionedReport_motion (s : Ctl) (c : Chan) : (Ctl.positionedReport s c).motion = s.motion := by
  simp only [Ctl.positionedReport]
  (repeat' split) <;> simp
@[simp] theorem Ctl.readFor_motion (s : Ctl) (c : Chan) (k : Task) (r : ReadResult) : (Ctl.readFor s c k r).motion = s.motion := by
  simp only [Ctl.readFor]
  split <;> simp
@[simp] theorem Ctl.readAnswered_motion (s : Ctl) (c : Chan) (o : TOrder) (pos : ℕ) (r : ReadResult) : (Ctl.readAnswered s c o pos r).motion = s.motion := by simp [Ctl.readAnswered]
@[simp] theorem Ctl.blockReadReport_motion (s : Ctl) (c : Chan) (bytes : List Byte) : (Ctl.blockReadReport s c bytes).motion = s.motion := by
  simp only [Ctl.blockReadReport]
  split <;> simp
@[simp] theorem Ctl.blockUnreadableReport_motion (s : Ctl) (c : Chan) : (Ctl.blockUnreadableReport s c).motion = s.motion := by
  simp only [Ctl.blockUnreadableReport]
  split <;> simp
@[simp] theorem Ctl.endOfDataReport_motion (s : Ctl) (c : Chan) (recorded : ℕ) : (Ctl.endOfDataReport s c recorded).motion = s.motion := by
  simp only [Ctl.endOfDataReport]
  (repeat' split) <;> simp
@[simp] theorem Ctl.writtenFor_motion (s : Ctl) (c : Chan) (k : Task) : (Ctl.writtenFor s c k).motion = s.motion := by
  simp only [Ctl.writtenFor]
  split <;> simp
@[simp] theorem Ctl.blockWrittenReport_motion (s : Ctl) (c : Chan) : (Ctl.blockWrittenReport s c).motion = s.motion := by
  simp only [Ctl.blockWrittenReport]
  split <;> simp
@[simp] theorem Ctl.endOfMediaReport_motion (s : Ctl) (c : Chan) : (Ctl.endOfMediaReport s c).motion = s.motion := by
  simp only [Ctl.endOfMediaReport]
  (repeat' split) <;> simp
@[simp] theorem Ctl.hardwareFault_motion (s : Ctl) (c : Chan) : (Ctl.hardwareFault s c).motion = s.motion := by simp [Ctl.hardwareFault]
@[simp] theorem Ctl.orderFault_motion (s : Ctl) (c : Chan) (o : TOrder) (k : FaultKind) : (Ctl.orderFault s c o k).motion = s.motion := by
  simp only [Ctl.orderFault]
  split <;> simp
@[simp] theorem Ctl.faultReport_motion (s : Ctl) (c : Chan) (k : FaultKind) : (Ctl.faultReport s c k).motion = s.motion := by
  simp only [Ctl.faultReport]
  (repeat' split) <;> simp
@[simp] theorem Ctl.transportTimeout_motion (s : Ctl) (c : Chan) : (Ctl.transportTimeout s c).motion = s.motion := by
  simp only [Ctl.transportTimeout]
  split <;> simp
@[simp] theorem Ctl.resetDone_motion (s : Ctl) (c : Chan) (r : TransportCondition) : (Ctl.resetDone s c r).motion = s.motion := by
  simp only [Ctl.resetDone]
  (repeat' split) <;> simp
@[simp] theorem Ctl.pushVerify_motion (s : Ctl) (v : VerifyEntry) : (Ctl.pushVerify s v).motion = s.motion := by rfl

end Sys2Proof.Machine
end

