-- ==== Sys2Proof/Laws/PerInstr.lean ====
section
/-! SUPPORT. Facts about every command as syntax: the request that a well-formed request row takes fits the body of a frame (R176, 11.1). -/

namespace Sys2Proof

open Machine

theorem padLabel_length (l : Label) (h : wfLabel l = true) : (padLabel l).length = 8 := by
  simp only [wfLabel, Bool.and_eq_true, decide_eq_true_eq] at h
  simp only [padLabel, List.length_append, List.length_replicate]; omega

theorem beBytes_length (k n : Nat) : (beBytes k n).length = k := by
  induction k with
  | zero => rfl
  | succ k ih => simp [beBytes, ih]

/-- A request that is well formed has at most 4,158 argument bytes: with its tag and its code it fits a body of 4,160. -/
theorem Req.args_fit (r : Req) (h : r.wf = true) : r.args.length + 2 ≤ 4160 := by
  cases r with
  | importCart d => cases d <;> simp [Req.args, byteOf, beBytes_length]
  | unload a d => cases d <;> simp [Req.args, byteOf, beBytes_length]
  | readSet n part => cases part <;> simp [Req.args, byteOf, wordOf, beBytes_length]
  | listSets f n => cases f <;> simp [Req.args, byteOf, beBytes_length, Req.wf, SetFilter.wf] at h ⊢; simp [padLabel_length _ h.1]
  | openSet ch t hint d r day y => cases t <;> simp [Req.args, byteOf, wordOf, beBytes_length, Req.wf, TargetArg.wf] at h ⊢; simp [padLabel_length, h]
  | setVerifyPolicy t n m pa pat o => cases pat <;> simp [Req.args, byteOf, wordOf, beBytes_length]
  | restore n f c d => cases c <;> simp [Req.args, byteOf, wordOf, beBytes_length]
  | writeDictionary n bs =>
    simp only [Req.wf, Bool.and_eq_true, decide_eq_true_eq] at h
    have : bs.length ≤ 4157 := h.2
    simp [Req.args, byteOf]; omega
  | _ =>
    simp [Req.wf] at h
    simp_all [Req.args, byteOf, wordOf, beBytes_length, padLabel_length]

/-- The request the command takes, if it is well formed, fits the body of a REQUEST frame. -/
def Laws.FitsFrame.Statement (i : Instr) : Prop := ∀ p r, i.request? = some (p, r) → r.wf = true → r.args.length + 2 ≤ 4160

theorem Laws.FitsFrame.of (i : Instr) : Laws.FitsFrame.Statement i := fun _ r _ h => r.args_fit h

theorem Laws.FitsFrame.powerUp (sense : Sense) (t0 t1 : TransportCondition) (imageIntact : Bool) : Laws.FitsFrame.Statement (.powerUp sense t0 t1 imageIntact) := Laws.FitsFrame.of _
theorem Laws.FitsFrame.requestFrame (p : Requester) (tag code : Nat) (args : List Byte) : Laws.FitsFrame.Statement (.requestFrame p tag code args) := Laws.FitsFrame.of _
theorem Laws.FitsFrame.badRequest (p : Requester) : Laws.FitsFrame.Statement (.badRequest p) := Laws.FitsFrame.of _
theorem Laws.FitsFrame.readInventory (p : Requester) (e : Nat) : Laws.FitsFrame.Statement (.readInventory p e) := Laws.FitsFrame.of _
theorem Laws.FitsFrame.reserve (p : Requester) (e : Nat) : Laws.FitsFrame.Statement (.reserve p e) := Laws.FitsFrame.of _
theorem Laws.FitsFrame.release (p : Requester) (e : Nat) : Laws.FitsFrame.Statement (.release p e) := Laws.FitsFrame.of _
theorem Laws.FitsFrame.setProtect (p : Requester) (dir idx : Nat) : Laws.FitsFrame.Statement (.setProtect p dir idx) := Laws.FitsFrame.of _
theorem Laws.FitsFrame.openDoor (p : Requester) (m : Nat) : Laws.FitsFrame.Statement (.openDoor p m) := Laws.FitsFrame.of _
theorem Laws.FitsFrame.grantQuiesce (p : Requester) (m : Nat) : Laws.FitsFrame.Statement (.grantQuiesce p m) := Laws.FitsFrame.of _
theorem Laws.FitsFrame.withdrawQuiesce (p : Requester) (m : Nat) : Laws.FitsFrame.Statement (.withdrawQuiesce p m) := Laws.FitsFrame.of _
theorem Laws.FitsFrame.importCart (p : Requester) (d : ImportDest) : Laws.FitsFrame.Statement (.importCart p d) := Laws.FitsFrame.of _
theorem Laws.FitsFrame.exportCart (p : Requester) (l : Label) : Laws.FitsFrame.Statement (.exportCart p l) := Laws.FitsFrame.of _
theorem Laws.FitsFrame.move (p : Requester) (src dst : Nat) : Laws.FitsFrame.Statement (.move p src dst) := Laws.FitsFrame.of _
theorem Laws.FitsFrame.load (p : Requester) (src dst : Nat) : Laws.FitsFrame.Statement (.load p src dst) := Laws.FitsFrame.of _
theorem Laws.FitsFrame.unload (p : Requester) (src : Nat) (dst : UnloadDest) : Laws.FitsFrame.Statement (.unload p src dst) := Laws.FitsFrame.of _
theorem Laws.FitsFrame.cancelMove (p : Requester) (id : Nat) : Laws.FitsFrame.Statement (.cancelMove p id) := Laws.FitsFrame.of _
theorem Laws.FitsFrame.resumePicker (p : Requester) : Laws.FitsFrame.Statement (.resumePicker p) := Laws.FitsFrame.of _
theorem Laws.FitsFrame.readQueue (p : Requester) : Laws.FitsFrame.Statement (.readQueue p) := Laws.FitsFrame.of _
theorem Laws.FitsFrame.setWatch (p : Requester) (w en q : Nat) (thr : Int) (dir act : Nat) : Laws.FitsFrame.Statement (.setWatch p w en q thr dir act) := Laws.FitsFrame.of _
theorem Laws.FitsFrame.setClimateInterval (p : Requester) (secs : Nat) : Laws.FitsFrame.Statement (.setClimateInterval p secs) := Laws.FitsFrame.of _
theorem Laws.FitsFrame.setAcclimation (p : Requester) (mins : Nat) : Laws.FitsFrame.Statement (.setAcclimation p mins) := Laws.FitsFrame.of _
theorem Laws.FitsFrame.clearAcclimation (p : Requester) (l : Label) : Laws.FitsFrame.Statement (.clearAcclimation p l) := Laws.FitsFrame.of _
theorem Laws.FitsFrame.readClimate (p : Requester) : Laws.FitsFrame.Statement (.readClimate p) := Laws.FitsFrame.of _
theorem Laws.FitsFrame.readCartridge (p : Requester) (l : Label) : Laws.FitsFrame.Statement (.readCartridge p l) := Laws.FitsFrame.of _
theorem Laws.FitsFrame.readSet (p : Requester) (set : Nat) (part : SetPart) : Laws.FitsFrame.Statement (.readSet p set part) := Laws.FitsFrame.of _
theorem Laws.FitsFrame.listSets (p : Requester) (f : SetFilter) (start : Nat) : Laws.FitsFrame.Statement (.listSets p f start) := Laws.FitsFrame.of _
theorem Laws.FitsFrame.expireSet (p : Requester) (set today : Nat) : Laws.FitsFrame.Statement (.expireSet p set today) := Laws.FitsFrame.of _
theorem Laws.FitsFrame.setRetention (p : Requester) (set days : Nat) : Laws.FitsFrame.Statement (.setRetention p set days) := Laws.FitsFrame.of _
theorem Laws.FitsFrame.reclaim (p : Requester) (l : Label) : Laws.FitsFrame.Statement (.reclaim p l) := Laws.FitsFrame.of _
theorem Laws.FitsFrame.forgetCartridge (p : Requester) (l : Label) : Laws.FitsFrame.Statement (.forgetCartridge p l) := Laws.FitsFrame.of _
theorem Laws.FitsFrame.writeDictionary (p : Requester) (slot : Nat) (bytes : List Byte) : Laws.FitsFrame.Statement (.writeDictionary p slot bytes) := Laws.FitsFrame.of _
theorem Laws.FitsFrame.readDictionary (p : Requester) (slot : Nat) : Laws.FitsFrame.Statement (.readDictionary p slot) := Laws.FitsFrame.of _
theorem Laws.FitsFrame.openSet (p : Requester) (ch : Nat) (target : TargetArg) (hint dict ret today yield : Nat) : Laws.FitsFrame.Statement (.openSet p ch target hint dict ret today yield) := Laws.FitsFrame.of _
theorem Laws.FitsFrame.sync (p : Requester) (set : Nat) : Laws.FitsFrame.Statement (.sync p set) := Laws.FitsFrame.of _
theorem Laws.FitsFrame.closeSet (p : Requester) (set : Nat) : Laws.FitsFrame.Statement (.closeSet p set) := Laws.FitsFrame.of _
theorem Laws.FitsFrame.abortSet (p : Requester) (set : Nat) : Laws.FitsFrame.Statement (.abortSet p set) := Laws.FitsFrame.of _
theorem Laws.FitsFrame.verifySet (p : Requester) (set : Nat) : Laws.FitsFrame.Statement (.verifySet p set) := Laws.FitsFrame.of _
theorem Laws.FitsFrame.cancelVerify (p : Requester) (set : Nat) : Laws.FitsFrame.Statement (.cancelVerify p set) := Laws.FitsFrame.of _
theorem Laws.FitsFrame.setVerifyPolicy (p : Requester) (trig skip passes mode : Nat) (pat : PatternArg) (overlap : Nat) : Laws.FitsFrame.Statement (.setVerifyPolicy p trig skip passes mode pat overlap) := Laws.FitsFrame.of _
theorem Laws.FitsFrame.readVerify (p : Requester) : Laws.FitsFrame.Statement (.readVerify p) := Laws.FitsFrame.of _
theorem Laws.FitsFrame.restore (p : Requester) (set first : Nat) (count : CountArg) (damage : Nat) : Laws.FitsFrame.Statement (.restore p set first count damage) := Laws.FitsFrame.of _
theorem Laws.FitsFrame.cancelRestore (p : Requester) (id : Nat) : Laws.FitsFrame.Statement (.cancelRestore p id) := Laws.FitsFrame.of _
theorem Laws.FitsFrame.checkpoint (p : Requester) : Laws.FitsFrame.Statement (.checkpoint p) := Laws.FitsFrame.of _
theorem Laws.FitsFrame.setAutoCheckpoint (p : Requester) (v : Nat) : Laws.FitsFrame.Statement (.setAutoCheckpoint p v) := Laws.FitsFrame.of _
theorem Laws.FitsFrame.readStore (p : Requester) : Laws.FitsFrame.Statement (.readStore p) := Laws.FitsFrame.of _
theorem Laws.FitsFrame.reload (p : Requester) : Laws.FitsFrame.Statement (.reload p) := Laws.FitsFrame.of _
theorem Laws.FitsFrame.recoverCartridge (p : Requester) (l : Label) : Laws.FitsFrame.Statement (.recoverCartridge p l) := Laws.FitsFrame.of _
theorem Laws.FitsFrame.linkReset (p : Requester) (l : Nat) : Laws.FitsFrame.Statement (.linkReset p l) := Laws.FitsFrame.of _
theorem Laws.FitsFrame.libraryReset (p : Requester) : Laws.FitsFrame.Statement (.libraryReset p) := Laws.FitsFrame.of _
theorem Laws.FitsFrame.dataOut (l : Link) (ch flags : Nat) (payload : List Byte) : Laws.FitsFrame.Statement (.dataOut l ch flags payload) := Laws.FitsFrame.of _
theorem Laws.FitsFrame.creditFrameReceived (l : Link) (ch count : Nat) : Laws.FitsFrame.Statement (.creditFrameReceived l ch count) := Laws.FitsFrame.of _
theorem Laws.FitsFrame.damagedFrame (p : Requester) : Laws.FitsFrame.Statement (.damagedFrame p) := Laws.FitsFrame.of _
theorem Laws.FitsFrame.frameSent (l : Link) : Laws.FitsFrame.Statement (.frameSent l) := Laws.FitsFrame.of _
theorem Laws.FitsFrame.panelRead (whole : Bool) : Laws.FitsFrame.Statement (.panelRead whole) := Laws.FitsFrame.of _
theorem Laws.FitsFrame.lockGained (l : Link) : Laws.FitsFrame.Statement (.lockGained l) := Laws.FitsFrame.of _
theorem Laws.FitsFrame.lockLost (l : Link) : Laws.FitsFrame.Statement (.lockLost l) := Laws.FitsFrame.of _
theorem Laws.FitsFrame.offlineTimerExpiry (l : Link) : Laws.FitsFrame.Statement (.offlineTimerExpiry l) := Laws.FitsFrame.of _
theorem Laws.FitsFrame.doorSwitchOpen (m : Mag) : Laws.FitsFrame.Statement (.doorSwitchOpen m) := Laws.FitsFrame.of _
theorem Laws.FitsFrame.doorSwitchClosed (m : Mag) : Laws.FitsFrame.Statement (.doorSwitchClosed m) := Laws.FitsFrame.of _
theorem Laws.FitsFrame.mailSwitchOpen : Laws.FitsFrame.Statement (.mailSwitchOpen) := Laws.FitsFrame.of _
theorem Laws.FitsFrame.mailSwitchClosed : Laws.FitsFrame.Statement (.mailSwitchClosed) := Laws.FitsFrame.of _
theorem Laws.FitsFrame.keySwitchChange (k : Key) : Laws.FitsFrame.Statement (.keySwitchChange k) := Laws.FitsFrame.of _
theorem Laws.FitsFrame.askTimerExpiry (m : Mag) : Laws.FitsFrame.Statement (.askTimerExpiry m) := Laws.FitsFrame.of _
theorem Laws.FitsFrame.doorOpenTimerExpiry (m : Mag) : Laws.FitsFrame.Statement (.doorOpenTimerExpiry m) := Laws.FitsFrame.of _
theorem Laws.FitsFrame.mailOpenTimerExpiry : Laws.FitsFrame.Statement (.mailOpenTimerExpiry) := Laws.FitsFrame.of _
theorem Laws.FitsFrame.doorUnlock (m : Mag) : Laws.FitsFrame.Statement (.doorUnlock m) := Laws.FitsFrame.of _
theorem Laws.FitsFrame.orderStart : Laws.FitsFrame.Statement (.orderStart) := Laws.FitsFrame.of _
theorem Laws.FitsFrame.fetchDone (r : LabelRead) : Laws.FitsFrame.Statement (.fetchDone r) := Laws.FitsFrame.of _
theorem Laws.FitsFrame.fetchEmpty : Laws.FitsFrame.Statement (.fetchEmpty) := Laws.FitsFrame.of _
theorem Laws.FitsFrame.putDone : Laws.FitsFrame.Statement (.putDone) := Laws.FitsFrame.of _
theorem Laws.FitsFrame.readDone (r : ReadReport) : Laws.FitsFrame.Statement (.readDone r) := Laws.FitsFrame.of _
theorem Laws.FitsFrame.homeDone (holding transportHolds : Bool) : Laws.FitsFrame.Statement (.homeDone holding transportHolds) := Laws.FitsFrame.of _
theorem Laws.FitsFrame.gripFault : Laws.FitsFrame.Statement (.gripFault) := Laws.FitsFrame.of _
theorem Laws.FitsFrame.pathBlocked : Laws.FitsFrame.Statement (.pathBlocked) := Laws.FitsFrame.of _
theorem Laws.FitsFrame.commandTimerExpiry : Laws.FitsFrame.Statement (.commandTimerExpiry) := Laws.FitsFrame.of _
theorem Laws.FitsFrame.threaded (c : Chan) (tab : TabReport) : Laws.FitsFrame.Statement (.threaded c tab) := Laws.FitsFrame.of _
theorem Laws.FitsFrame.ejected (c : Chan) : Laws.FitsFrame.Statement (.ejected c) := Laws.FitsFrame.of _
theorem Laws.FitsFrame.positioned (c : Chan) : Laws.FitsFrame.Statement (.positioned c) := Laws.FitsFrame.of _
theorem Laws.FitsFrame.blockRead (c : Chan) (bytes : List Byte) : Laws.FitsFrame.Statement (.blockRead c bytes) := Laws.FitsFrame.of _
theorem Laws.FitsFrame.blockUnreadable (c : Chan) : Laws.FitsFrame.Statement (.blockUnreadable c) := Laws.FitsFrame.of _
theorem Laws.FitsFrame.endOfData (c : Chan) (recordedEnd : Nat) : Laws.FitsFrame.Statement (.endOfData c recordedEnd) := Laws.FitsFrame.of _
theorem Laws.FitsFrame.blockWritten (c : Chan) : Laws.FitsFrame.Statement (.blockWritten c) := Laws.FitsFrame.of _
theorem Laws.FitsFrame.endOfMedia (c : Chan) : Laws.FitsFrame.Statement (.endOfMedia c) := Laws.FitsFrame.of _
theorem Laws.FitsFrame.transportFault (c : Chan) (k : FaultKind) : Laws.FitsFrame.Statement (.transportFault c k) := Laws.FitsFrame.of _
theorem Laws.FitsFrame.transportOrderTimerExpiry (c : Chan) : Laws.FitsFrame.Statement (.transportOrderTimerExpiry c) := Laws.FitsFrame.of _
theorem Laws.FitsFrame.transportResetDone (c : Chan) (r : TransportCondition) : Laws.FitsFrame.Statement (.transportResetDone c r) := Laws.FitsFrame.of _
theorem Laws.FitsFrame.coderResult (c : Chan) : Laws.FitsFrame.Statement (.coderResult c) := Laws.FitsFrame.of _
theorem Laws.FitsFrame.expanderReport (c : Chan) : Laws.FitsFrame.Statement (.expanderReport c) := Laws.FitsFrame.of _
theorem Laws.FitsFrame.bankCodingStart (c : Chan) : Laws.FitsFrame.Statement (.bankCodingStart c) := Laws.FitsFrame.of _
theorem Laws.FitsFrame.creditGrant (c : Chan) : Laws.FitsFrame.Statement (.creditGrant c) := Laws.FitsFrame.of _
theorem Laws.FitsFrame.syncComplete (c : Chan) : Laws.FitsFrame.Statement (.syncComplete c) := Laws.FitsFrame.of _
theorem Laws.FitsFrame.summaryBlockWrite (c : Chan) : Laws.FitsFrame.Statement (.summaryBlockWrite c) := Laws.FitsFrame.of _
theorem Laws.FitsFrame.suspensionComplete (c : Chan) : Laws.FitsFrame.Statement (.suspensionComplete c) := Laws.FitsFrame.of _
theorem Laws.FitsFrame.verifyEntryStart : Laws.FitsFrame.Statement (.verifyEntryStart) := Laws.FitsFrame.of _
theorem Laws.FitsFrame.restorePlacement : Laws.FitsFrame.Statement (.restorePlacement) := Laws.FitsFrame.of _
theorem Laws.FitsFrame.sampleIntervalExpiry : Laws.FitsFrame.Statement (.sampleIntervalExpiry) := Laws.FitsFrame.of _
theorem Laws.FitsFrame.sensorAnswer (r : SensorReply) : Laws.FitsFrame.Statement (.sensorAnswer r) := Laws.FitsFrame.of _
theorem Laws.FitsFrame.sensorNoAnswer : Laws.FitsFrame.Statement (.sensorNoAnswer) := Laws.FitsFrame.of _
theorem Laws.FitsFrame.minuteTimerExpiry : Laws.FitsFrame.Statement (.minuteTimerExpiry) := Laws.FitsFrame.of _
theorem Laws.FitsFrame.needCartridgeTimerExpiry (c : Chan) : Laws.FitsFrame.Statement (.needCartridgeTimerExpiry c) := Laws.FitsFrame.of _
theorem Laws.FitsFrame.stallTimerExpiry (c : Chan) : Laws.FitsFrame.Statement (.stallTimerExpiry c) := Laws.FitsFrame.of _
theorem Laws.FitsFrame.flashEraseDone : Laws.FitsFrame.Statement (.flashEraseDone) := Laws.FitsFrame.of _
theorem Laws.FitsFrame.flashProgramDone (pageMatches lastPage : Bool) : Laws.FitsFrame.Statement (.flashProgramDone pageMatches lastPage) := Laws.FitsFrame.of _
theorem Laws.FitsFrame.commitMarkDone : Laws.FitsFrame.Statement (.commitMarkDone) := Laws.FitsFrame.of _
theorem Laws.FitsFrame.flashErrorReport : Laws.FitsFrame.Statement (.flashErrorReport) := Laws.FitsFrame.of _
theorem Laws.FitsFrame.flashTimerExpiry : Laws.FitsFrame.Statement (.flashTimerExpiry) := Laws.FitsFrame.of _
theorem Laws.FitsFrame.imageReadDone (intact : Bool) : Laws.FitsFrame.Statement (.imageReadDone intact) := Laws.FitsFrame.of _

end Sys2Proof
end

