-- ==== Sys2Proof/Laws/Queue.lean ====
section
/-! SUPPORT. What an order raised by a block, a door's unlock test, the departure of an order that nothing follows, and the settling of the gripper come to. -/

namespace Sys2Proof.Machine

/-! ## Raising an order (R26) -/

/-- An order that orders no eject enters the queue, or is held. -/
theorem Ctl.enter_of_not_unload (k : Ctl) (o : Order) (h : o.kind ≠ .unload) : k.enter o = k.pushOrder o .ready := by
  simp only [Ctl.enter]
  split
  · rename_i heq _; exact absurd heq h
  · rfl

theorem Ctl.raiseOrder_raised (k : Ctl) (o : Order) (f : Nat → Order) (h : o.kind ≠ .unload) (hf : ∀ id, f id = { o with id := id, state := .ready })
    (h0 : f 0 = o) : Raised k (k.raiseOrder o) f := by
  refine ⟨fun hq => ?_, fun hq hh => ?_, fun hq hh => ?_⟩
  · simp only [Ctl.raiseOrder, Config.moveQueueRoom, hq, if_true, Ctl.enter_of_not_unload k o h, Ctl.pushOrder, hf]
    rfl
  · have : ¬k.picker.queue.length < 8 := by omega
    simp only [Ctl.raiseOrder, Config.moveQueueRoom, Config.heldOfferRoom, this, hh, if_true, if_false, h0]
    rfl
  · have h1 : ¬k.picker.queue.length < 8 := by omega
    have h2 : ¬k.picker.held.length < 32 := by omega
    simp [Ctl.raiseOrder, Config.moveQueueRoom, Config.heldOfferRoom, h1, h2]

/-! ## Doors (R14) -/

theorem Ctl.doorMayUnlock_iff (k : Ctl) (m : Mag) : k.doorMayUnlock m = true ↔
    (k.door m).state = .asking ∧ (∀ l, (k.door m).granted.get l = true ∨ (k.link l).online = false)
      ∧ ∀ o, k.picker.running = some o → k.touches o m = false := by
  have hl : (∀ l, (k.door m).granted.get l = true ∨ (k.link l).online = false) ↔ k.doorGranted m .a = true ∧ k.doorGranted m .b = true := by
    simp only [Ctl.doorGranted, Bool.or_eq_true, Bool.not_eq_true']
    exact ⟨fun h => ⟨h .a, h .b⟩, fun h l => by cases l <;> [exact h.1; exact h.2]⟩
  have hr : (match k.picker.running with
      | some o => !k.touches o m
      | none => true) = true ↔ ∀ o, k.picker.running = some o → k.touches o m = false := by
    cases k.picker.running <;> simp
  simp only [Ctl.doorMayUnlock, Bool.and_eq_true, decide_eq_true_eq, hl, hr]
  tauto

theorem Ctl.doorTest_unlocks (k : Ctl) (m : Mag) (h : k.doorMayUnlock m = true) :
    k.doorTest m = (k.setDoor m { k.door m with state := .unlocked, askTimer := false, openTimer := true }).notifyAll (.door m .unlocked .ok) := by
  simp [Ctl.doorTest, h]

theorem Ctl.doorTest_stays (k : Ctl) (m : Mag) (h : ¬k.doorMayUnlock m = true) : k.doorTest m = k := by
  simp [Ctl.doorTest, h]

@[simp] theorem Ctl.setDoor_touches (k : Ctl) (x m : Mag) (d : Door) (o : Order) : (k.setDoor x d).touches o m = k.touches o m := rfl
@[simp] theorem Ctl.popRequest_touches (k : Ctl) (p : Requester) (o : Order) (m : Mag) : (k.popRequest p).touches o m = k.touches o m := by cases p <;> rfl
@[simp] theorem Ctl.respond_touches (k : Ctl) (p : Requester) (tag : Nat) (code : Code) (r : Result) (o : Order) (m : Mag) :
    (k.respond p tag code r).touches o m = k.touches o m := by cases p <;> rfl
@[simp] theorem Ctl.notify_touches (k : Ctl) (p : Requester) (n : Notice) (o : Order) (m : Mag) : (k.notify p n).touches o m = k.touches o m := by cases p <;> rfl

/-! ## A departure that nothing follows (R14, R26) -/

theorem Ctl.leave_of_held (k : Ctl) (id : Nat) (h : k.picker.held = []) :
    k.leave id = { k with picker := { k.picker with queue := k.picker.queue.filter fun o => o.id ≠ id } } := by
  simp [Ctl.leave, Ctl.admitHeld, Ctl.setPicker, h, Ctl.admitFrom]

theorem Ctl.doorTests_of_quiet (k : Ctl) (h : ∀ m, (k.door m).state ≠ .asking) : k.doorTests = k := by
  have stays : ∀ m, k.doorTest m = k := fun m => k.doorTest_stays m fun hm => h m ((k.doorMayUnlock_iff m).1 hm).1
  rw [Ctl.doorTests, stays, stays]

theorem Ctl.finishDrains_of_quiet (k : Ctl) (h : ∀ c, (k.chan c).drain = none) : k.finishDrains = k := by
  simp only [Ctl.finishDrains, Ctl.finishDrain, h]

/-- Nobody waits for a cartridge: sessions choose nothing, and no restore or verify is judged again. -/
theorem Ctl.rechooseAll_of_nobody (k : Ctl) (h : NobodyWaits k none) : k.rechooseAll = k := by
  have stays : ∀ c, k.rechoose c = k := fun c => by
    simp only [Ctl.rechoose]
    split
    · rename_i x hx; rw [if_neg (h.sessions c x hx)]
    · rfl
  rw [Ctl.rechooseAll, stays, stays]

theorem Ctl.judgeWaiting_of_nobody (k : Ctl) (h : NobodyWaits k none) : k.judgeWaiting = k := by
  have stays : ∀ c, k.restoreRejudge c = k := fun c => by
    simp only [Ctl.restoreRejudge]
    split
    · rename_i r hr
      have h1 := (h.restores c r hr).1
      have h2 : r.state ≠ .loading := fun hl => nomatch (h.restores c r hr).2 hl
      split
      · split
        · rename_i hs; exact absurd hs h1
        · rename_i hs; exact absurd hs h2
        · rfl
      · rfl
    · rfl
  rw [Ctl.judgeWaiting, stays, stays, Ctl.verifyRejudge]
  split
  · rename_i v hv; simp [h.verifies v hv]
  · rfl

/-- A transport that carries out an order returns to MOUNTED; any other keeps its state (R34, R127). -/
theorem TransportState.returned_eq (st : TransportState) :
    st.returned = if st = .moving ∨ st = .reading ∨ st = .writing ∨ st = .ejecting then .mounted else st := by cases st <;> rfl

/-! ## The settling of the gripper (R40) -/

/-- Audits raised one after the other join the queue, then the held offers, and touch nothing else. -/
theorem Ctl.raiseOrders_join (offers : List Order) (k : Ctl) (h : ∀ o ∈ offers, o.kind = .audit ∨ o.kind = .scanAll) :
    offers.foldl (fun k o => k.raiseOrder o) k = { k with picker := k.picker.joinedBy offers } := by
  induction offers generalizing k with
  | nil => rfl
  | cons o rest ih =>
    have hk : o.kind ≠ .unload := by rcases h o (List.mem_cons_self ..) with h | h <;> simp [h]
    rw [List.foldl_cons, ih _ fun x hx => h x (List.mem_cons_of_mem _ hx)]
    by_cases hq : k.picker.queue.length < 8
    · simp only [Ctl.raiseOrder, Config.moveQueueRoom, Picker.joinedBy, Ctl.enter_of_not_unload k o hk, hq, if_true]
      rfl
    · by_cases hh : k.picker.held.length < 32
      · simp only [Ctl.raiseOrder, Config.moveQueueRoom, Config.heldOfferRoom, Picker.joinedBy, hq, hh, if_true, if_false]
        rfl
      · have full : ∀ l : List Order, k.picker.joinedBy l = k.picker := fun l => by cases l <;> simp [Picker.joinedBy, hq, hh]
        simp only [Ctl.raiseOrder, Config.moveQueueRoom, Config.heldOfferRoom, hq, hh, if_false, full]

/-- What a picker that is settled keeps beside its orders. -/
def Picker.atRest (p : Picker) : Picker :=
  { p with state := .idle, cmd := none, phase := .idle, failed := none, carried := none, homeRetry := 0, auditOffers := [] }

theorem Picker.joinedBy_atRest (offers : List Order) (p : Picker) : p.atRest.joinedBy offers = (p.joinedBy offers).atRest := by
  induction offers generalizing p with
  | nil => rfl
  | cons o rest ih =>
    by_cases hq : p.queue.length < 8
    · have h1 : p.atRest.queue.length < 8 := hq
      simp only [Picker.joinedBy, hq, h1, if_true, ← ih]
      rfl
    · have h1 : ¬p.atRest.queue.length < 8 := hq
      by_cases hh : p.held.length < 32
      · have h2 : p.atRest.held.length < 32 := hh
        simp only [Picker.joinedBy, hq, h1, hh, h2, if_true, if_false, ← ih]
        rfl
      · have h2 : ¬p.atRest.held.length < 32 := hh
        simp only [Picker.joinedBy, hq, h1, hh, h2, if_false]

/-- The settling of the gripper says once what it does. -/
theorem Ctl.settled_eq (k : Ctl) (h : ∀ o ∈ k.picker.auditOffers, o.kind = .audit ∨ o.kind = .scanAll) : k.settled = k.gripperSettled := by
  simp only [Ctl.settled, Ctl.gripperSettled]
  rw [Ctl.raiseOrders_join _ _ h]
  have hp : ((k.setPicker k.picker.atRest).notifyAll .pickerIdle).picker = k.picker.atRest := rfl
  show { (k.setPicker k.picker.atRest).notifyAll .pickerIdle with
    picker := ((k.setPicker k.picker.atRest).notifyAll .pickerIdle).picker.joinedBy k.picker.auditOffers } = _
  rw [hp, Picker.joinedBy_atRest]
  rfl

end Sys2Proof.Machine
end

