-- ==== Sys2Proof/Laws/Records.lean ====
section
/-! SUPPORT. What the Move Queue, the doors, the mail slot, the banks and the ports do to the catalog, the verifies, the restores and the store: nothing. One lemma per
operation. -/

namespace Sys2Proof.Machine

/-- The catalog, the verifies, the restores and the store. -/
def Ctl.records (s : Ctl) : Catalog × VerifyUnit × RestoreUnit × Store := (s.cat, s.verify, s.restore, s.store)

@[simp] theorem Ctl.setElem_records (s : Ctl) (x : Element) (r : ElementRec) : (s.setElem x r).records = s.records := by simp [Ctl.records]
@[simp] theorem Ctl.setDoor_records (s : Ctl) (x : Mag) (d : Door) : (s.setDoor x d).records = s.records := by simp [Ctl.records]
@[simp] theorem Ctl.setMail_records (s : Ctl) (v : MailSlot) : (s.setMail v).records = s.records := by simp [Ctl.records]
@[simp] theorem Ctl.setKey_records (s : Ctl) (v : Key) : (s.setKey v).records = s.records := by simp [Ctl.records]
@[simp] theorem Ctl.setProtectCode_records (s : Ctl) (v : Protect) : (s.setProtectCode v).records = s.records := by simp [Ctl.records]
@[simp] theorem Ctl.setPicker_records (s : Ctl) (v : Picker) : (s.setPicker v).records = s.records := by simp [Ctl.records]
@[simp] theorem Ctl.setClimate_records (s : Ctl) (v : Climate) : (s.setClimate v).records = s.records := by simp [Ctl.records]
@[simp] theorem Ctl.setDicts_records (s : Ctl) (v : Dicts) : (s.setDicts v).records = s.records := by simp [Ctl.records]
@[simp] theorem Ctl.setPanel_records (s : Ctl) (v : PanelPort) : (s.setPanel v).records = s.records := by simp [Ctl.records]
@[simp] theorem Ctl.setChan_records (s : Ctl) (x : Chan) (v : Channel) : (s.setChan x v).records = s.records := by simp [Ctl.records]
@[simp] theorem Ctl.setTr_records (s : Ctl) (x : Chan) (v : Transport) : (s.setTr x v).records = s.records := by simp [Ctl.records]
@[simp] theorem Ctl.setLink_records (s : Ctl) (x : Link) (v : LinkPort) : (s.setLink x v).records = s.records := by simp [Ctl.records]
@[simp] theorem Ctl.notify_records (s : Ctl) (p : Requester) (n : Notice) : (s.notify p n).records = s.records := by simp [Ctl.records]
@[simp] theorem Ctl.notifyOpt_records (s : Ctl) (p : Option Requester) (n : Notice) : (s.notifyOpt p n).records = s.records := by simp [Ctl.records]
@[simp] theorem Ctl.notifyLink_records (s : Ctl) (l : Link) (n : Notice) : (s.notifyLink l n).records = s.records := by simp [Ctl.records]
@[simp] theorem Ctl.notifyAll_records (s : Ctl) (n : Notice) : (s.notifyAll n).records = s.records := by simp [Ctl.records]
@[simp] theorem Ctl.respond_records (s : Ctl) (p : Requester) (tag : Nat) (code : Code) (r : Result) : (s.respond p tag code r).records = s.records := by simp [Ctl.records]
@[simp] theorem Ctl.popRequest_records (s : Ctl) (p : Requester) : (s.popRequest p).records = s.records := by simp [Ctl.records]

@[simp] theorem Ctl.fill_records (s : Ctl) (e : Element) (o : Occupancy) (en : Option Entry) : (Ctl.fill s e o en).records = s.records := by rfl
@[simp] theorem Ctl.reserveFor_records (s : Ctl) (e : Element) (p : Option Requester) : (Ctl.reserveFor s e p).records = s.records := by rfl
@[simp] theorem Ctl.setSession_records (s : Ctl) (c : Chan) (x : Session) : (Ctl.setSession s c x).records = s.records := by rfl
@[simp] theorem Ctl.setBank_records (s : Ctl) (c : Chan) (i : BankIx) (b : Bank) : (Ctl.setBank s c i b).records = s.records := by rfl
theorem Ctl.takeRequest_records (s : Ctl) (p : Requester) (r : Req) (f : Nat → Ctl → Ctl)
    (h : ∀ tag k, (f tag k).records = k.records) : (s.takeRequest p r f).records = s.records := by
  simp only [Ctl.takeRequest]
  (repeat' split) <;> simp [h]
@[simp] theorem Ctl.setPresent_records (s : Ctl) (c : Chan) (b : Bool) : (Ctl.setPresent s c b).records = s.records := by rfl
@[simp] theorem Ctl.thread_records (s : Ctl) (c : Chan) (k : Task) : (Ctl.thread s c k).records = s.records := by rfl
@[simp] theorem Ctl.locate_records (s : Ctl) (c : Chan) (pos : ℕ) (k : Task) : (Ctl.locate s c pos k).records = s.records := by rfl
@[simp] theorem Ctl.readBlock_records (s : Ctl) (c : Chan) (k : Task) : (Ctl.readBlock s c k).records = s.records := by rfl
@[simp] theorem Ctl.writeBlock_records (s : Ctl) (c : Chan) (bytes : List Byte) (k : Task) : (Ctl.writeBlock s c bytes k).records = s.records := by rfl
@[simp] theorem Ctl.readAt_records (s : Ctl) (c : Chan) (pos : ℕ) (locate : Task) (read : Task) : (Ctl.readAt s c pos locate read).records = s.records := by
  simp only [Ctl.readAt]
  split <;> simp
@[simp] theorem Ctl.mapOrders_records (s : Ctl) (f : Order → Order) : (Ctl.mapOrders s f).records = s.records := by rfl
@[simp] theorem Ctl.pushOrder_records (s : Ctl) (o : Order) (st : OrderState) : (Ctl.pushOrder s o st).records = s.records := by rfl
@[simp] theorem Ctl.enter_records (s : Ctl) (o : Order) : (Ctl.enter s o).records = s.records := by
  simp only [Ctl.enter]
  (repeat' split) <;> simp
@[simp] theorem Ctl.admitFrom_records (n : Nat) (s : Ctl) : (Ctl.admitFrom n s).records = s.records := by
  induction n generalizing s with
  | zero => rfl
  | succ n ih =>
    simp only [Ctl.admitFrom]
    (repeat' split) <;> simp [ih]
@[simp] theorem Ctl.admitHeld_records (s : Ctl) : (Ctl.admitHeld s).records = s.records := by simp [Ctl.admitHeld]
@[simp] theorem Ctl.raiseOrder_records (s : Ctl) (o : Order) : (Ctl.raiseOrder s o).records = s.records := by
  simp only [Ctl.raiseOrder]
  (repeat' split) <;> simp
@[simp] theorem Ctl.leave_records (s : Ctl) (id : ℕ) : (Ctl.leave s id).records = s.records := by simp [Ctl.leave]
@[simp] theorem Ctl.withdraw_records (s : Ctl) (p : Order → Bool) : (Ctl.withdraw s p).records = s.records := by simp [Ctl.withdraw]
@[simp] theorem Ctl.disown_records (s : Ctl) (by' : Raiser) (unload : Bool) : (Ctl.disown s by' unload).records = s.records := by rfl
@[simp] theorem Ctl.raiseHome_records (s : Ctl) (c : Chan) (p : Option Requester) (by' : Option Raiser) : (Ctl.raiseHome s c p by').records = s.records := by
  simp only [Ctl.raiseHome]
  split <;> simp
@[simp] theorem Ctl.unloadHome_records (s : Ctl) (c : Chan) (p : Option Requester) (by' : Option Raiser) : (Ctl.unloadHome s c p by').records = s.records := by
  simp only [Ctl.unloadHome]
  split <;> simp
@[simp] theorem Ctl.clearTransport_records (s : Ctl) (c : Chan) (p : Requester) (by' : Raiser) : (Ctl.clearTransport s c p by').records = s.records := by
  simp only [Ctl.clearTransport]
  (repeat' split) <;> simp
@[simp] theorem Ctl.raiseLoad_records (s : Ctl) (c : Chan) (l : Label) (p : Requester) (by' : Raiser) (purpose : Purpose) : (Ctl.raiseLoad s c l p by' purpose).records = s.records := by simp [Ctl.raiseLoad]
@[simp] theorem Ctl.ejectReady_records (s : Ctl) (c : Chan) : (Ctl.ejectReady s c).records = s.records := by rfl
@[simp] theorem Ctl.failEjectWait_records (c : Chan) (n : Nat) (s : Ctl) : (Ctl.failEjectWait c n s).records = s.records := by
  induction n generalizing s with
  | zero => rfl
  | succ n ih =>
    simp only [Ctl.failEjectWait]
    split <;> simp [ih]
@[simp] theorem Ctl.ejectFailed_records (s : Ctl) (c : Chan) : (Ctl.ejectFailed s c).records = s.records := by simp [Ctl.ejectFailed]
@[simp] theorem Ctl.sendPendingEject_records (s : Ctl) (c : Chan) : (Ctl.sendPendingEject s c).records = s.records := by
  simp only [Ctl.sendPendingEject]
  (repeat' split) <;> simp
@[simp] theorem Ctl.transportReported_records (s : Ctl) (c : Chan) (st : TransportState) (pos : ℕ) : (Ctl.transportReported s c st pos).records = s.records := by simp [Ctl.transportReported]
@[simp] theorem Ctl.modSession_records (s : Ctl) (c : Chan) (f : Session → Session) : (Ctl.modSession s c f).records = s.records := by
  simp only [Ctl.modSession]
  split <;> simp
@[simp] theorem Ctl.closeBank_records (s : Ctl) (c : Chan) (i : BankIx) : (Ctl.closeBank s c i).records = s.records := by
  simp only [Ctl.closeBank]
  split <;> simp
@[simp] theorem Ctl.closeFilling_records (s : Ctl) (c : Chan) : (Ctl.closeFilling s c).records = s.records := by
  simp only [Ctl.closeFilling]
  split <;> simp
@[simp] theorem Ctl.grant_records (s : Ctl) (c : Chan) : (Ctl.grant s c).records = s.records := by
  simp only [Ctl.grant]
  (repeat' split) <;> simp
@[simp] theorem Ctl.dropCredits_records (s : Ctl) (c : Chan) : (Ctl.dropCredits s c).records = s.records := by
  simp only [Ctl.dropCredits]
  split <;> simp
@[simp] theorem Ctl.loadChosen_records (s : Ctl) (c : Chan) (x : Session) (l : Label) : (Ctl.loadChosen s c x l).records = s.records := by simp [Ctl.loadChosen]
@[simp] theorem Ctl.choose_records (s : Ctl) (c : Chan) : (Ctl.choose s c).records = s.records := by
  simp only [Ctl.choose]
  (repeat' split) <;> simp
@[simp] theorem Ctl.rechoose_records (s : Ctl) (c : Chan) : (Ctl.rechoose s c).records = s.records := by
  simp only [Ctl.rechoose]
  (repeat' split) <;> simp
@[simp] theorem Ctl.rechooseAll_records (s : Ctl) : (Ctl.rechooseAll s).records = s.records := by simp [Ctl.rechooseAll]
@[simp] theorem Ctl.startCoding_records (s : Ctl) (c : Chan) : (Ctl.startCoding s c).records = s.records := by
  simp only [Ctl.startCoding]
  (repeat' split) <;> simp
@[simp] theorem Ctl.syncClose_records (s : Ctl) (c : Chan) : (Ctl.syncClose s c).records = s.records := by
  simp only [Ctl.syncClose]
  (repeat' split) <;> simp
@[simp] theorem Ctl.syncDone_records (s : Ctl) (c : Chan) : (Ctl.syncDone s c).records = s.records := by
  simp only [Ctl.syncDone]
  (repeat' split) <;> simp
@[simp] theorem Ctl.judgeHold_records (s : Ctl) : (Ctl.judgeHold s).records = s.records := by
  simp only [Ctl.judgeHold]
  (repeat' split) <;> simp
@[simp] theorem Ctl.setResult_records (s : Ctl) (w : WatchId) (r : WatchResult) : (Ctl.setResult s w r).records = s.records := by rfl
@[simp] theorem Ctl.clearFailures_records (s : Ctl) : (Ctl.clearFailures s).records = s.records := by
  simp only [Ctl.clearFailures]
  split <;> simp
@[simp] theorem Ctl.restartSampling_records (s : Ctl) (first : WatchId) : (Ctl.restartSampling s first).records = s.records := by
  simp only [Ctl.restartSampling]
  (repeat' split) <;> simp
@[simp] theorem Ctl.readingFailed_records (s : Ctl) (w : WatchId) : (Ctl.readingFailed s w).records = s.records := by
  simp only [Ctl.readingFailed]
  split <;> simp
@[simp] theorem Ctl.readingDone_records (s : Ctl) (w : WatchId) (v : ℤ) : (Ctl.readingDone s w v).records = s.records := by
  simp only [Ctl.readingDone]
  split <;> simp
@[simp] theorem Ctl.resetClimate_records (s : Ctl) : (Ctl.resetClimate s).records = s.records := by simp [Ctl.resetClimate]
@[simp] theorem Ctl.clearAcclim_records (s : Ctl) (e : Element) : (Ctl.clearAcclim s e).records = s.records := by rfl
@[simp] theorem Ctl.minute_records (s : Ctl) : (Ctl.minute s).records = s.records := by rfl
@[simp] theorem Ctl.sample_records (s : Ctl) : (Ctl.sample s).records = s.records := by
  simp only [Ctl.sample]
  split <;> simp
@[simp] theorem Ctl.sensorAnswer_records (s : Ctl) (r : SensorReply) : (Ctl.sensorAnswer s r).records = s.records := by
  simp only [Ctl.sensorAnswer]
  (repeat' split) <;> simp
@[simp] theorem Ctl.sensorSilent_records (s : Ctl) : (Ctl.sensorSilent s).records = s.records := by
  simp only [Ctl.sensorSilent]
  split <;> simp
@[simp] theorem Ctl.doorTest_records (s : Ctl) (m : Mag) : (Ctl.doorTest s m).records = s.records := by
  simp only [Ctl.doorTest]
  split <;> simp
@[simp] theorem Ctl.doorTests_records (s : Ctl) : (Ctl.doorTests s).records = s.records := by simp [Ctl.doorTests]
@[simp] theorem Ctl.notifyAsked_records (s : Ctl) (asked : PerLink Bool) (n : Notice) : (Ctl.notifyAsked s asked n).records = s.records := by
  simp only [Ctl.notifyAsked]
  (repeat' split) <;> simp
@[simp] theorem Ctl.doorSwitchShut_records (s : Ctl) (m : Mag) : (Ctl.doorSwitchShut s m).records = s.records := by
  simp only [Ctl.doorSwitchShut]
  split <;> simp
@[simp] theorem Ctl.mailUncertain_records (s : Ctl) : (Ctl.mailUncertain s).records = s.records := by rfl
@[simp] theorem Ctl.releaseImport_records (s : Ctl) (slot : Option (Fin 24)) (p : Option Requester) : (Ctl.releaseImport s slot p).records = s.records := by
  simp only [Ctl.releaseImport]
  (repeat' split) <;> simp
@[simp] theorem Ctl.endImport_records (s : Ctl) : (Ctl.endImport s).records = s.records := by
  simp only [Ctl.endImport]
  (repeat' split) <;> simp
@[simp] theorem Ctl.mailShut_records (s : Ctl) (o : Order) : (Ctl.mailShut s o).records = s.records := by simp [Ctl.mailShut]
@[simp] theorem Ctl.forcedShut_records (s : Ctl) : (Ctl.forcedShut s).records = s.records := by
  simp only [Ctl.forcedShut]
  (repeat' split) <;> simp
@[simp] theorem Ctl.mailOpenExport_records (s : Ctl) (p : Option Requester) (l : Label) : (Ctl.mailOpenExport s p l).records = s.records := by simp [Ctl.mailOpenExport]
@[simp] theorem Ctl.mailSwitchOpened_records (s : Ctl) : (Ctl.mailSwitchOpened s).records = s.records := by
  simp only [Ctl.mailSwitchOpened]
  split <;> simp
@[simp] theorem Ctl.mailSwitchShut_records (s : Ctl) : (Ctl.mailSwitchShut s).records = s.records := by
  simp only [Ctl.mailSwitchShut]
  (repeat' split) <;> first | rfl | simp
@[simp] theorem Ctl.mailCancelled_records (s : Ctl) (cause : Code) : (Ctl.mailCancelled s cause).records = s.records := by
  simp only [Ctl.mailCancelled]
  (repeat' split) <;> simp
@[simp] theorem Ctl.command_records (s : Ctl) (k : MotionCmd) (ph : Phase) : (Ctl.command s k ph).records = s.records := by rfl
@[simp] theorem Ctl.answered_records (s : Ctl) : (Ctl.answered s).records = s.records := by rfl
@[simp] theorem Ctl.pickerIdle_records (s : Ctl) : (Ctl.pickerIdle s).records = s.records := by rfl
@[simp] theorem Ctl.modOrder_records (s : Ctl) (id : ℕ) (f : Order → Order) : (Ctl.modOrder s id f).records = s.records := by rfl
@[simp] theorem Ctl.presentUnthreaded_records (s : Ctl) (c : Chan) : (Ctl.presentUnthreaded s c).records = s.records := by rfl
@[simp] theorem Ctl.askDoor_records (s : Ctl) (p : Requester) (m : Mag) : (Ctl.askDoor s p m).records = s.records := by simp [Ctl.askDoor]
@[simp] theorem Ctl.markGranted_records (s : Ctl) (m : Mag) (l : Link) : (Ctl.markGranted s m l).records = s.records := by rfl
@[simp] theorem Ctl.mailOpenImport_records (s : Ctl) (p : Requester) (dest : Option (Fin 24)) : (Ctl.mailOpenImport s p dest).records = s.records := by
  simp only [Ctl.mailOpenImport]
  split <;> simp
@[simp] theorem Ctl.beginExport_records (s : Ctl) (p : Requester) (l : Label) (e : Element) : (Ctl.beginExport s p l e).records = s.records := by
  simp only [Ctl.beginExport]
  split <;> simp
@[simp] theorem Ctl.beginHoming_records (s : Ctl) : (Ctl.beginHoming s).records = s.records := by rfl
@[simp] theorem Ctl.requestArrives_records (s : Ctl) (p : Requester) (q : QueuedReq) : (Ctl.requestArrives s p q).records = s.records := by
  simp only [Ctl.requestArrives]
  (repeat' split) <;> simp
@[simp] theorem Ctl.refuseBad_records (s : Ctl) (p : Requester) : (Ctl.refuseBad s p).records = s.records := by
  simp only [Ctl.refuseBad]
  (repeat' split) <;> simp
@[simp] theorem Ctl.kick_records (s : Ctl) (l : Link) : (Ctl.kick s l).records = s.records := by rfl
@[simp] theorem Ctl.grantFor_records (s : Ctl) (l : Link) (c : Chan) : (Ctl.grantFor s l c).records = s.records := by
  simp only [Ctl.grantFor]
  (repeat' split) <;> simp
@[simp] theorem Ctl.askBack_records (s : Ctl) (l : Link) (m : Mag) : (Ctl.askBack s l m).records = s.records := by
  simp only [Ctl.askBack]
  split <;> simp
@[simp] theorem Ctl.lockGained_records (s : Ctl) (l : Link) : (Ctl.lockGained s l).records = s.records := by
  simp only [Ctl.lockGained]
  split <;> simp
@[simp] theorem Ctl.dropCreditsOf_records (s : Ctl) (l : Link) (c : Chan) : (Ctl.dropCreditsOf s l c).records = s.records := by
  simp only [Ctl.dropCreditsOf]
  (repeat' split) <;> simp
@[simp] theorem Ctl.lockLost_records (s : Ctl) (l : Link) : (Ctl.lockLost s l).records = s.records := by
  simp only [Ctl.lockLost]
  split <;> simp
@[simp] theorem Ctl.resetPort_records (s : Ctl) (l : Link) (cause : ResetCause) : (Ctl.resetPort s l cause).records = s.records := by rfl
@[simp] theorem Ctl.dropReservations_records (s : Ctl) (p : Requester → Bool) : (Ctl.dropReservations s p).records = s.records := by rfl
@[simp] theorem Ctl.queueLinkReset_records (s : Ctl) (l : Link) : (Ctl.queueLinkReset s l).records = s.records := by simp [Ctl.queueLinkReset]
@[simp] theorem Ctl.portsReset_records (s : Ctl) (keep : List Response) (cause : ResetCause) : (Ctl.portsReset s keep cause).records = s.records := by simp [Ctl.portsReset]
@[simp] theorem Ctl.transportReset_records (s : Ctl) (c : Chan) : (Ctl.transportReset s c).records = s.records := by
  simp only [Ctl.transportReset]
  split <;> simp
@[simp] theorem Ctl.closeIfFull_records (s : Ctl) (c : Chan) (i : BankIx) : (Ctl.closeIfFull s c i).records = s.records := by
  simp only [Ctl.closeIfFull]
  split <;> simp
@[simp] theorem Ctl.placeData_records (s : Ctl) (c : Chan) (kept : Option BankIx) (bytes : List Byte) (eor : Bool) : (Ctl.placeData s c kept bytes eor).records = s.records := by
  simp only [Ctl.placeData]
  (repeat' split) <;> simp
end Sys2Proof.Machine
end

