-- ==== Sys2Proof/Tests/Slice0.lean ====
section
/-! SUPPORT. Tests: ill-formed commands that WellFormed refuses, the manual's worked values, and states that meet the hypotheses of each statement. -/

namespace Sys2Proof.Tests

-- One test at a time: each one that is waited for holds a thread, and a thread's stack is large.
set_option Elab.async false

open Machine

/-! ## Small states -/

/-- A readable label of class S: TAPE0, a digit, S1. -/
def lab (n : Nat) : Label := [0x54#8, 0x41#8, 0x50#8, 0x45#8, 0x30#8, BitVec.ofNat 8 (0x30 + n), 0x53#8, 0x31#8]

/-- A machine at rest: links ONLINE with nothing to send, the key OPEN, nothing protected, every element EMPTY and the picker IDLE with no order. -/
def rest : Ctl :=
  { Ctl.reset with
    inv := { Ctl.reset.inv with
      elements := Vector.replicate 28 { occ := .empty, entry := none, reserved := none }, protect := { dir := .bottom, idx := 0 }, key := .opened }
    picker := { Picker.initial with state := .idle, cmd := none, phase := .idle, queue := [], nextId := 1 }
    links := ⟨{ LinkPort.initial with online := true, notices := [] }, { LinkPort.initial with online := true, notices := [] }⟩
    panel := { PanelPort.initial with notices := [] } }

/-- A controller with no command waiting. -/
def st (k : Ctl) : State := { ctl := k, pending := [] }

/-- No transport order waits for its answer, and no RELOAD for a session's end. -/
abbrev Ans (k : Ctl) : Prop := (k.tr .c0).rejected = none ∧ (k.tr .c1).rejected = none ∧ k.store.reload ≠ .ending ∧ k.store.reload ≠ .again

theorem test_answered {k : Ctl} (h : Ans k) : Answered k :=
  ⟨fun c => by cases c <;> simp [h.1, h.2.1], fun hr => by simp [h.2.2.1, h.2.2.2] at hr⟩

/-- Nothing follows an order's departure, and nobody waits for a cartridge. -/
abbrev Quiet (k : Ctl) : Prop :=
  k.picker.held = [] ∧ (k.door .l).state ≠ .asking ∧ (k.door .r).state ≠ .asking ∧ (k.chan .c0).drain = none ∧ (k.chan .c1).drain = none

abbrev Alone (k : Ctl) : Prop :=
  ((k.session .c0).map (·.state)) ≠ some .needCartridge ∧ ((k.session .c1).map (·.state)) ≠ some .needCartridge ∧ k.restoreOn .c0 = none ∧ k.restoreOn .c1 = none
    ∧ (k.verifyRunning.map (·.waits)).getD false = false

theorem test_quiet {k : Ctl} (h : Quiet k) : LeavesQuietly k :=
  ⟨h.1, fun m => by cases m; exacts [h.2.1, h.2.2.1], fun c => by cases c; exacts [h.2.2.2.1, h.2.2.2.2]⟩

theorem test_alone {k : Ctl} (h : Alone k) (b : Option Chan) : NobodyWaits k b where
  sessions c x hx := by
    have := h.1; have := h.2.1
    cases c <;> simp_all
  restores c r hr := by cases c <;> simp_all
  verifies v hv := by simpa [hv] using h.2.2.2.2

theorem test_element_listed (x : Element) : x ∈ Element.all := by cases x with
  | transport c => cases c <;> simp [Element.all]
  | _ => simp [Element.all]

/-- A label that stands nowhere but in `src` stands apart from every other element. -/
theorem test_apart {k : Ctl} {l : Label} {src : Element} (h : k.standsElsewhere l src = false) (x : Element) (hx : x ≠ src) (hu : (k.elem x).occ ≠ .uncertain) :
    k.labelAt x ≠ some l := fun hl => by
  have : k.standsElsewhere l src = true := List.any_eq_true.2 ⟨x, test_element_listed x, by simp [hx, hu, hl]⟩
  simp [h] at this

/-- The four conditions of the law of writing, as a test that can be run. -/
theorem test_lawful {k : Ctl} {y : Cart} {en : Option Entry}
    (h : ((en.all fun e => (e.home.all fun i => !k.inv.protect.covers i) && decide (e.tab ≠ .set)) && decide (classOf y.label ≠ .unsupported ∧ y.state = .opened)) = true) :
    LawOfWriting k y en := by
  simp only [Bool.and_eq_true, decide_eq_true_eq, Option.all_eq_true] at h
  exact ⟨fun e i he hi => by simpa using (h.1 e he).1 i hi, fun e he => (h.1 e he).2, h.2.1, h.2.2⟩

/-- The request `r` as it stands in a queue, with tag 7. -/
def hd (r : Req) : QueuedReq := { tag := 7, code := r.code, args := r.args }

/-- The request `r` stands alone in the queue of port `p`. -/
def asks (k : Ctl) (p : Requester) (r : Req) : Ctl :=
  match p with
  | .link l => k.setLink l { k.link l with requests := [hd r] }
  | .panel => k.setPanel { k.panel with requests := [hd r] }

/-- The record of an OPEN cartridge at generation 1 that stands in `e`. -/
def cart (n : Nat) (e : Option Element) : Cart :=
  { label := lab n, generation := 1, state := .opened, loc := e, frames := 1, eod := 1, early := false, native := 0, coded := 0, sets := [] }

/-- A cartridge whose home is slot S02 stands in `e`, with a record. -/
def put (k : Ctl) (n : Nat) (e : Element) : Ctl :=
  (k.setElem e { occ := .full, entry := some { label := some (lab n), home := some 1, acclim := 0, tab := .clear }, reserved := none }).setCat
    { k.cat with carts := k.cat.carts ++ [cart n (some e)] }

/-- The cartridge stands MOUNTED in a transport, at a position. -/
def mount (k : Ctl) (n : Nat) (c : Chan) (pos : Nat) : Ctl :=
  (put k n (.transport c)).setTr c { Transport.initial with state := .mounted, pos := pos, present := true }

/-- The transport has an order outstanding, in the state in which it runs. -/
def ordered (k : Ctl) (c : Chan) (st : TransportState) (kind : TOrderKind) (task : Task) : Ctl :=
  k.setTr c { k.tr c with state := st, order := some { kind := kind, task := task } }

/-- A CLOSED set of Link A with two blocks on one cartridge. -/
def set (id n : Nat) : SetRec :=
  { SetRec.fresh id .a 100 30 0 0 with state := .closed, extents := [{ label := lab n, firstPos := 1, firstBlock := 0, count := 2 }], blocks := 2, records := 5,
                                       index := [{ block := 0, record := 0, cont := false }] }

def withSet (k : Ctl) (r : SetRec) : Ctl := k.setCat { k.cat with sets := k.cat.sets ++ [r] }

/-- A session of Link A writes set 1, which is WRITING, on cartridge 1 in T0. -/
def sess : Session := { Session.fresh 1 .a none 0 0 30 100 true with state := .streaming, chosen := some (lab 1) }

def writes (k : Ctl) (x : Session) : Ctl :=
  (withSet k { set 1 1 with state := .writing }).setChan .c0 { k.chan .c0 with mode := .write, session := some x }

/-- The channel's session streams on cartridge 1, MOUNTED in T0 at its end-of-data. -/
def streams : Ctl := writes (mount rest 1 .c0 1) sess

def bank (s : BankState) (bytes : List Byte) (block : Nat) : Bank := { state := s, bytes := bytes, ends := [bytes.length], stamp := some ⟨block, 0, false, 0⟩ }

/-- The code of the answer that Link A's idle transmitter sends. -/
def answerCode (s : State) (i : Instr) : Option Code :=
  match exec i s with
  | .next t =>
    match (t.ctl.link .a).tx with
    | some (.response r) => some r.code
    | _ => none
  | _ => none

/-- The element's record is as `f` makes it. -/
def el (k : Ctl) (e : Element) (f : ElementRec → ElementRec) : Ctl := k.setElem e (f (k.elem e))

/-! ## Hypotheses of the statements: the ports -/

/-- A request the panel may not send, one no link may send, no request at all, a code below and one above the table. -/
theorem test_RequestsJudgedAtHead_meets :
    ((Instr.reserve .panel 1).request? = some (.panel, .reserve 1) ∧ AtHead (st (asks rest .panel (.reserve 1))) .panel (hd (.reserve 1)) (.reserve 1)
      ∧ (Req.reserve 1).code ∉ panelCodes ∧ Ans rest)
    ∧ ((Instr.clearAcclimation (.link .b) (lab 1)).request? = some (.link .b, .clearAcclimation (lab 1))
      ∧ AtHead (st (asks rest (.link .b) (.clearAcclimation (lab 1)))) (.link .b) (hd (.clearAcclimation (lab 1))) (.clearAcclimation (lab 1))
      ∧ (Req.clearAcclimation (lab 1)).code ∈ [19, 27, 43, 46])
    ∧ ((Instr.reserve (.link .a) 1).request? = some (.link .a, .reserve 1) ∧ ∀ q, ¬AtHead (st rest) (.link .a) q (.reserve 1))
    ∧ ((st { rest with panel := { rest.panel with requests := [⟨1, 0, []⟩] } }).ctl.headRequest .panel = some ⟨1, 0, []⟩ ∧ Req.decode 0 [] = none)
    ∧ Req.decode 47 [] = none
    ∧ ((Req.readSet 1 (.index 0)).wf = true ∧ 3 < (Req.readSet 1 (.index 0)).args.length ∧ (Req.openSet 0 (.label (lab 1)) 0 0 0 0 0).wf = true)
    ∧ (let k := asks (rest.setLink .a { rest.link .a with responses := List.replicate 8 ⟨1, .ok, .none, false⟩ }) (.link .a) (.reserve 1)
       (k.link .a).requests ≠ [] ∧ Ans k ∧ ∀ q, ¬AtHead (st k) (.link .a) q (.reserve 1)) := by
  refine ⟨by unfold AtHead; decide, by unfold AtHead; decide, ⟨by decide, fun q h => absurd h.1 (nomatch ·)⟩, by decide, by decide, by decide, by decide, by decide, ?_⟩
  exact fun q h => absurd h.1 (nomatch ·)

/-- An ONLINE link that sends, with each list in turn the first that holds something. -/
theorem test_FramesSentAndRead_meets :
    let r : Response := ⟨1, .ok, .none, false⟩
    let k (cs : List (Chan × Nat)) (rs : List Response) (ns : List Notice) := rest.setLink .a
      { rest.link .a with tx := some (.response r), creditFrames := cs, responses := rs, notices := ns }
    (((k [(.c0, 16)] [r] [.pickerIdle]).link .a).online = true ∧ ((k [(.c0, 16)] [r] [.pickerIdle]).link .a).tx = some (.response r)
      ∧ (∀ d, TxFrame.response r ≠ .data d) ∧ Ans (k [(.c0, 16)] [r] [.pickerIdle]) ∧ ((k [(.c0, 16)] [r] [.pickerIdle]).link .a).creditFrames = (.c0, 16) :: [])
    ∧ (((k [] [r] [.pickerIdle]).link .a).creditFrames = [] ∧ ((k [] [r] [.pickerIdle]).link .a).responses = r :: [])
    ∧ (((k [] [] [.pickerIdle]).link .a).responses = [] ∧ ((k [] [] [.pickerIdle]).link .a).notices = .pickerIdle :: [])
    ∧ (((k [] [] []).link .a).notices = [] ∧ ((k [] [] []).link .a).data = ⟨none, none⟩) := by
  exact ⟨⟨rfl, rfl, nofun, by decide, rfl⟩, ⟨rfl, rfl⟩, ⟨rfl, rfl⟩, rfl, rfl⟩

/-- A panel port whose first list with something in it is in turn the responses, the refusal, the notices, none; each is read whole and in part. The empty NOTICE has 9 bytes. -/
theorem test_FramesSentAndRead_panel_meets :
    let r : Response := ⟨1, .ok, .none, false⟩
    let k (rs : List Response) (x : Option Response) (ns : List Notice) : Ctl := { rest with panel := { rest.panel with responses := rs, refusal := x, notices := ns } }
    (∀ whole, ∃ t, exec (.panelRead whole) (st (k [r] (some r) [.pickerIdle])) = .next t ∧ t.ctl.panel.responses = if whole then [] else [r])
    ∧ (∀ whole, ∃ t, exec (.panelRead whole) (st (k [] (some r) [.pickerIdle])) = .next t ∧ t.ctl.panel.refusal = if whole then none else some r)
    ∧ (∀ whole, ∃ t, exec (.panelRead whole) (st (k [] none [.pickerIdle])) = .next t ∧ t.ctl.panel.notices = if whole then [] else [.pickerIdle])
    ∧ (∀ whole, ∃ t, exec (.panelRead whole) (st (k [] none [])) = .next t ∧ t.ctl.panel.lastRead = some .emptyNotice)
    ∧ PanelFrame.emptyNotice.bytes.length = 9 ∧ (PanelFrame.emptyNotice.readBytes 10)[9]? = some 0xFF#8 := by
  refine ⟨fun w => ⟨_, rfl, by cases w <;> rfl⟩, fun w => ⟨_, rfl, by cases w <;> rfl⟩, fun w => ⟨_, rfl, by cases w <;> rfl⟩, fun w => ⟨_, rfl, by cases w <;> rfl⟩, ?_⟩
  decide +kernel

/-! ## Hypotheses of the statements: elements, doors and the mail slot -/

theorem test_ReserveAndRelease_meets :
    AtHead (st (asks rest (.link .a) (.reserve 1))) (.link .a) (hd (.reserve 1)) (.reserve 1)
    ∧ AtHead (st (asks rest .panel (.release 28))) .panel (hd (.release 28)) (.release 28) := by unfold AtHead; decide

/-- SET_PROTECT at the list's end and beyond it; with no session waiting, choosing again does nothing. -/
theorem test_ProtectAndKey_meets :
    AtHead (st (asks rest .panel (.setProtect 1 8))) .panel (hd (.setProtect 1 8)) (.setProtect 1 8)
    ∧ AtHead (st (asks rest .panel (.setProtect 1 9))) .panel (hd (.setProtect 1 9)) (.setProtect 1 9)
    ∧ { rest.store with state := .clean }.state = .clean ∧ ∀ c x, rest.session c = some x → x.state ≠ .needCartridge := by
  refine ⟨by unfold AtHead; decide, by unfold AtHead; decide, rfl, fun c x h => by cases c <;> exact absurd h (nomatch ·)⟩

/-- An ASKING door of magazine L; the marks stand as given, and the switch is CLOSED. -/
def asking (a b : Bool) : Ctl :=
  rest.setDoor .l { Door.initial with state := .asking, requester := some .panel, granted := ⟨a, b⟩, asked := ⟨!a, !b⟩, askTimer := true }

/-- Links ONLINE: the door is asked for; one link ONLINE and asking: it unlocks; the key in LOCK over a protected magazine; a magazine outside the list; a door that is
not LOCKED. -/
theorem test_OpenDoorAsks_meets :
    (AtHead (st (asks rest .panel (.openDoor 0))) .panel (hd (.openDoor 0)) (.openDoor 0) ∧ magOf 0 = some .l ∧ (rest.door .l).state = .locked)
    ∧ (AtHead (st (asks rest .panel (.openDoor 2))) .panel (hd (.openDoor 2)) (.openDoor 2) ∧ 1 < 2)
    ∧ (let k := rest.setLink .b { rest.link .b with online := false }
       AtHead (st (asks k (.link .a) (.openDoor 1))) (.link .a) (hd (.openDoor 1)) (.openDoor 1) ∧ magOf 1 = some .r ∧ k.picker.running = none)
    ∧ (let k := { rest with inv := { rest.inv with key := .lock, protect := { dir := .bottom, idx := 1 } } }
       AtHead (st (asks k .panel (.openDoor 0))) .panel (hd (.openDoor 0)) (.openDoor 0) ∧ k.inv.key = .lock ∧ (Element.slot 0).mag = some .l
         ∧ k.inv.protect.covers 0 = true)
    ∧ (AtHead (st (asks (asking true false) .panel (.openDoor 0))) .panel (hd (.openDoor 0)) (.openDoor 0) ∧ ((asking true false).door .l).state ≠ .locked) := by
  unfold AtHead; decide

/-- A door that unlocks, one that a mark holds back, the last mark given by GRANT_QUIESCE, and a command that makes a door UNLOCKED. -/
theorem test_DoorUnlocks_meets :
    (((asking true true).door .l).state = .asking ∧ (∀ l, ((asking true true).door .l).granted.get l = true) ∧ (asking true true).picker.running = none)
    ∧ (((asking true false).door .l).granted.get .b = false ∧ ((asking true false).link .b).online = true)
    ∧ (magOf 0 = some .l ∧ AtHead (st (asks (asking true false) (.link .b) (.grantQuiesce 0))) (.link .b) (hd (.grantQuiesce 0)) (.grantQuiesce 0))
    ∧ (AtHead (st (asks (asking false false) (.link .b) (.grantQuiesce 0))) (.link .b) (hd (.grantQuiesce 0)) (.grantQuiesce 0)
      ∧ ((asking false false).door .l).granted.get .a = false)
    ∧ ∃ t, exec (.doorUnlock .l) (st (asking true true)) = .next t ∧ ((asking true true).door .l).state ≠ .unlocked ∧ (t.ctl.door .l).state = .unlocked := by
  refine ⟨⟨rfl, fun l => by cases l <;> rfl, rfl⟩, by decide, by unfold AtHead; decide, by unfold AtHead; decide, _, rfl, by decide, rfl⟩

/-- Doors in each state that the clauses name. -/
theorem test_DoorsOpenAndEnd_meets :
    let unlocked := rest.setDoor .r { Door.initial with state := .unlocked, openTimer := true }
    let opened := rest.setDoor .r { Door.initial with state := .opened }
    (((asking true false).door .l).state = .asking ∧ ((asking true false).door .l).askTimer = true)
    ∧ ((unlocked.door .r).state = .unlocked ∧ (unlocked.door .r).openTimer = true ∧ (unlocked.door .r).state ≠ .asking)
    ∧ (magOf 0 = some .l ∧ AtHead (st (asks (asking true false) (.link .b) (.withdrawQuiesce 0))) (.link .b) (hd (.withdrawQuiesce 0)) (.withdrawQuiesce 0))
    ∧ (opened.door .r).state = .opened ∧ (rest.door .r).state = .locked ∧ (rest.door .r).state ≠ .audit
    ∧ Ans (asking true false) ∧ Ans unlocked ∧ (rest.door .l).state ≠ .asking := by
  unfold AtHead; decide

/-- The mail slot in each state that the clauses name. -/
theorem test_MailSlotEvents_meets :
    let w := MailSlot.initial
    let imp : MailSlot := { w with state := .openImport, requester := some .panel, dest := some 3, reservedSlot := some 3, timer := true }
    let exp : MailSlot := { w with state := .openExport, requester := some (.link .a), label := some (lab 1), timer := true }
    (w.state = .locked ∧ w.forced = false ∧ w.timer = false) ∧ ({ w with forced := true }.state = .locked ∧ { w with forced := true }.forced = true)
    ∧ ({ imp with forced := true }.switchOpen = false ∧ { exp with forced := true }.switchOpen = false)
    ∧ (imp.state = .openImport ∧ imp.timer = true ∧ imp.switchOpen = false ∧ ∀ l : Link, (some (.link l) : Option Requester) ≠ imp.requester)
    ∧ { imp with switchOpen := true }.switchOpen = true ∧ { imp with dest := none, reservedSlot := none }.reservedSlot = none
    ∧ (exp.state = .openExport ∧ exp.timer = true ∧ exp.switchOpen = false ∧ exp.requester = some (.link .a) ∧ exp.label = some (lab 1))
    ∧ { exp with switchOpen := true }.switchOpen = true := by
  refine ⟨by decide, by decide, by decide, ⟨by decide, by decide, by decide, fun l => by cases l <;> decide⟩, by decide⟩

/-- IMPORT to ANY and to the last slot; EXPORT of an unknown label, of a cartridge in a slot, and of one in M. -/
theorem test_ImportAndExportAnswers_meets :
    (AtHead (st (asks rest .panel (.importCart .any))) .panel (hd (.importCart .any)) (.importCart .any) ∧ importSlot .any = some none)
    ∧ (AtHead (st (asks rest .panel (.importCart (.element 24)))) .panel (hd (.importCart (.element 24))) (.importCart (.element 24))
      ∧ importSlot (.element 24) = some (some 23))
    ∧ (AtHead (st (asks rest .panel (.exportCart (lab 1)))) .panel (hd (.exportCart (lab 1))) (.exportCart (lab 1)) ∧ rest.findLabel (lab 1) = none)
    ∧ (let k := put rest 1 (.slot 0)
       AtHead (st (asks k .panel (.exportCart (lab 1)))) .panel (hd (.exportCart (lab 1))) (.exportCart (lab 1)) ∧ k.findLabel (lab 1) = some (.slot 0)
         ∧ k.inv.mail.state = .locked ∧ k.entryProtected (k.elem (.slot 0)).entry = false ∧ k.inUse (lab 1) = false ∧ k.doorBusy (.slot 0) = false)
    ∧ (let k := put rest 1 .mail
       AtHead (st (asks k .panel (.exportCart (lab 1)))) .panel (hd (.exportCart (lab 1))) (.exportCart (lab 1)) ∧ k.findLabel (lab 1) = some .mail
         ∧ k.inv.mail.state = .locked ∧ k.entryProtected (k.elem .mail).entry = false ∧ k.inUse (lab 1) = false ∧ k.doorBusy .mail = false)
    ∧ (let k := (put rest 1 (.slot 0)).setMail { MailSlot.initial with state := .openImport }
       AtHead (st (asks k .panel (.exportCart (lab 1)))) .panel (hd (.exportCart (lab 1))) (.exportCart (lab 1)) ∧ k.findLabel (lab 1) = some (.slot 0)
         ∧ k.inv.mail.state ≠ .locked) := by
  unfold AtHead; decide

/-! ## Hypotheses of the statements: the picker and the Move Queue -/

/-- Link A's MOVE of what stands in slot S01 to S03, and an UNLOAD HOME of T0, as they stand in the queue. -/
def mover : Order :=
  { Order.blank with id := 1, requester := some (.link .a), internal := false, kind := .move, source := .element (.slot 0), dest := .element (.slot 2), state := .ready }

def queued (k : Ctl) (o : Order) : Ctl := { k with picker := { k.picker with queue := k.picker.queue ++ [o], nextId := 2 } }

def running (k : Ctl) (o : Order) (cmd : MotionCmd) (ph : Phase) : Ctl :=
  let t := queued k { o with state := .running }
  { t with picker := { t.picker with state := .busy, cmd := some cmd, phase := ph } }

/-- A MOVE, a LOAD and an UNLOAD that pass every check of R27's table, an UNLOAD of an ejected cartridge, elements of the wrong kind, and the orders CANCEL_MOVE may name. -/
theorem test_MoveRequestsAnswered_meets :
    let slot1 := put rest 1 (.slot 0)
    let inT0 := mount rest 1 .c0 3
    let out := inT0.setTr .c0 { inT0.tr .c0 with state := .ejected }
    (AtHead (st (asks slot1 .panel (.move 1 3))) .panel (hd (.move 1 3)) (.move 1 3) ∧ (Req.move 1 3).permitted .panel = true
      ∧ askedOrder .panel (.move .panel 1 3) = some (moveOrder .panel 1 3) ∧ (st (asks slot1 .panel (.move 1 3))).ctl.picker.state ≠ .faulted)
    ∧ (AtHead (st (asks slot1 (.link .a) (.load 1 27))) (.link .a) (hd (.load 1 27)) (.load 1 27)
      ∧ ∃ o, loadOrder (.link .a) 1 27 = some o ∧ slot1.orderAnswer (.link .a) o = .accepted ∧ o.kind ≠ .unload)
    ∧ (AtHead (st (asks inT0 (.link .a) (.unload 26 .home))) (.link .a) (hd (.unload 26 .home)) (.unload 26 .home)
      ∧ (∃ o, unloadOrder (.link .a) 26 .home = some o ∧ inT0.orderAnswer (.link .a) o = .accepted ∧ out.orderAnswer (.link .a) o = .accepted
          ∧ o.kind = .unload ∧ o.sourceTransport = some .c0)
      ∧ (inT0.tr .c0).state = .mounted ∧ (inT0.tr .c0).order = none ∧ (out.tr .c0).state = .ejected)
    ∧ (AtHead (st (asks rest .panel (.move 1 28))) .panel (hd (.move 1 28)) (.move 1 28) ∧ rest.picker.state ≠ .faulted ∧ moveOrder .panel 1 28 = none)
    ∧ AtHead (st (asks (queued slot1 mover) (.link .a) (.cancelMove 1))) (.link .a) (hd (.cancelMove 1)) (.cancelMove 1) ∧ rest.picker.held = [] := by
  refine ⟨by unfold AtHead; decide, ⟨by unfold AtHead; decide, _, rfl, by decide, by decide⟩,
    ⟨by unfold AtHead; decide, ⟨_, rfl, by decide, by decide, by decide, by decide⟩, by decide⟩, by unfold AtHead; decide, by unfold AtHead; decide⟩

/-- Each refusal of R27's table is given somewhere: to a MOVE from S01 to S03, an UNLOAD of T1 and a LOAD of S01 into T1, all of Link A. -/
theorem test_MoveRequestsAnswered_refused_meets :
    let k := put rest 1 (.slot 0)
    let asked (k : Ctl) : Option Code := answerCode (st (asks k (.link .a) (.move 1 3))) (.move (.link .a) 1 3)
    asked { k with picker := { k.picker with state := .faulted } } = some .pickerFaulted
    ∧ asked (el k (.slot 2) fun r => { r with occ := .uncertain }) = some .wrongState
    ∧ answerCode (st (asks k (.link .a) (.unload 27 .home))) (.unload (.link .a) 27 .home) = some .noCartridge
    ∧ answerCode (st (asks (k.setChan .c1 { k.chan .c1 with mode := .verify }) (.link .a) (.load 1 27))) (.load (.link .a) 1 27) = some .channelBusy
    ∧ asked (withSet (writes k sess) (set 2 1)) = some .inUse
    ∧ asked (el k (.slot 0) fun r => { r with reserved := some (.link .b) }) = some .reserved
    ∧ asked { k with inv := { k.inv with protect := ⟨.bottom, 2⟩ } } = some .isProtected
    ∧ asked (k.setDoor .l { Door.initial with state := .asking }) = some .doorBusy
    ∧ asked { k with picker := { k.picker with queue := List.replicate 8 mover } } = some .queueFull := by decide +kernel

/-- M as the picker reads it after an export of cartridge 1, and for Link A's import of which no slot was free. -/
def exportRead (k : Ctl) : Ctl := running k (auditOrder 1 (.element .mail) (.exportScan (.link .a) (lab 1))) (.read .mail) (.scanning [.mail])
def importRead (k : Ctl) : Ctl := running k (mailMove 1 (some (.link .a)) .mail (.element (.slot 4)) none (.importMove (some 4))) (.read .mail) .importRead

/-- What READ's report leaves of an element: its record, and the first notice that Link A's idle transmitter sends. -/
def readLeaves (k : Ctl) (e : Element) (r : ReadReport) : Option (Occupancy × Option Label × Option Notice) :=
  match exec (.readDone r) (st k) with
  | .next t => some ((t.ctl.elem e).occ, t.ctl.labelAt e, match (t.ctl.link .a).tx with
    | some (.notice n _) => some n
    | _ => none)
  | _ => none

/-- The READ of M after an export finds nothing, the exported label, another and none that can be read; that for an import finds a cartridge, and nothing. -/
theorem test_MailSlotEvents_read_meets :
    let x := exportRead (put rest 1 .mail)
    let i := importRead (el (rest.setElem (.slot 4) { occ := .full, entry := none, reserved := some (.link .a) }) .mail fun r => { r with occ := .uncertain })
    Answered x ∧ LeavesQuietly x ∧ NobodyWaits x none ∧ Answered i ∧ LeavesQuietly i
    ∧ (x.picker.cmd = some (.read .mail) ∧ x.picker.running.map (·.role) = some (.exportScan (.link .a) (lab 1)) ∧ x.labelAt .mail = some (lab 1)
      ∧ x.standsElsewhere (lab 1) .mail = false ∧ x.standsElsewhere (lab 2) .mail = false ∧ x.standsElsewhere (0x3F#8 :: Element.mail.name) .mail = false)
    ∧ (i.picker.phase = .importRead ∧ i.picker.running.map (·.role) = some (.importMove (some 4)) ∧ (i.elem (.slot 4)).reserved = some (.link .a))
    ∧ readLeaves x .mail .noCartridge = some (.empty, none, some (.mailSlot .exported .ok (some (lab 1))))
    ∧ readLeaves x .mail (.label (lab 1)) = some (.full, some (lab 1), some (.mailSlot .exported .elementFull (some (lab 1))))
    ∧ readLeaves x .mail (.label (lab 2)) = some (.full, some (lab 2), some (.mailSlot .exported .ok (some (lab 1))))
    ∧ readLeaves x .mail .unreadable = some (.full, some [0x3F#8, 0x4D#8], some (.mailSlot .exported .ok (some (lab 1))))
    ∧ readLeaves i .mail (.label (lab 2)) = some (.full, some (lab 2), some (.noSlot (some (lab 2)) .mail))
    ∧ readLeaves i .mail .noCartridge = some (.empty, none, some (.moveFailed 1 .noCartridge)) := by
  exact ⟨test_answered (by decide), test_quiet (by decide), test_alone (by decide) none, test_answered (by decide), test_quiet (by decide), by decide, by decide, by decide +kernel, by decide +kernel,
    by decide +kernel, by decide +kernel, by decide +kernel, by decide +kernel⟩

/-- Offers are held behind a full queue, and behind one with a free place; an UNLOAD finds its transport in each state in which its eject is taken differently. -/
theorem test_MoveRequestsAnswered_held_meets :
    let un : Order := { mover with kind := .unload, source := .element (.transport .c0), dest := .home }
    let k (n : Nat) : Ctl := { mount rest 1 .c0 3 with picker := { rest.picker with queue := List.replicate n mover, held := [un, mover] } }
    let at' (s : TransportState) (o : Option TOrder) : Ctl := (k 7).setTr .c0 { (k 7).tr .c0 with state := s, order := o }
    let enters (k : Ctl) := ((k.enter un).picker.queue.getLast?.map (·.state), ((k.enter un).tr .c0).pendingEject)
    (8 ≤ (k 8).picker.queue.length ∧ (k 8).admitHeld = k 8) ∧ ((k 7).picker.held = un :: [mover] ∧ (k 7).picker.queue.length < 8 ∧ (k 7).admitHeld.picker.held = [mover])
    ∧ (un.kind = .unload ∧ un.sourceTransport = some .c0 ∧ mover.kind ≠ .unload)
    ∧ enters (k 6) = (some .ejectWait, false) ∧ enters (at' .ejected none) = (some .ready, false) ∧ enters (at' .reading (some { kind := .read, task := .dropped })) = (some .ejectWait, true)
    ∧ enters (at' .empty none) = (some .ejectWait, false) ∧ ((at' .faulted none).enter un).picker.queue.length = 7 := by decide

/-- A FAULTED picker; a homing one whose gripper is uncertain, and empty. With cartridge 1 in the gripper: a failed source slot that is EMPTY and one that is not, no failed order
with S01 free and with S01 FULL and S02 free, a protected cartridge, and no slot at all. -/
theorem test_PickerHomes_meets :
    let homing : Ctl := { rest with picker := Picker.initial }
    let g := put homing 1 .gripper
    let failed (k : Ctl) (e : Element) : Ctl := { k with picker := { k.picker with failed := some { source := some e, putDest := none, requester := some (.link .a) } } }
    let s1 := put g 2 (.slot 0)
    AtHead (st (asks { rest with picker := { rest.picker with state := .faulted } } .panel .resumePicker)) .panel (hd .resumePicker) .resumePicker
    ∧ (homing.picker.cmd = some .home ∧ (homing.elem .gripper).occ = .empty ∧ homing.picker.auditOffers = [] ∧ Ans homing)
    ∧ ((el homing .gripper fun r => { r with occ := .uncertain }).elem .gripper).occ = .uncertain
    ∧ ((g.elem .gripper).occ = .full ∧ Ans g ∧ ((failed g (.slot 5)).elem (.slot 5)).occ = .empty ∧ g.entryProtected (g.elem .gripper).entry = false
      ∧ ((failed (put g 2 (.slot 5)) (.slot 5)).elem (.slot 5)).occ = .full ∧ g.picker.failed = none)
    ∧ ((g.elem (.slot 0)).occ = .empty ∧ g.slotProtected (.slot 0) = false ∧ (g.elem (.slot 0)).reserved = none ∧ (Element.slot 0).mag = some .l ∧ (g.door .l).state = .locked)
    ∧ ((s1.elem (.slot 0)).occ = .full ∧ (s1.elem (.slot 1)).occ = .empty ∧ s1.slotProtected (.slot 1) = false)
    ∧ (let p : Ctl := { g with inv := { g.inv with protect := ⟨.bottom, 2⟩ } }
       p.entryProtected (p.elem .gripper).entry = true ∧ p.slotProtected (.slot 0) = true ∧ ((p.elem .gripper).entry.bind (·.home)) = some 1)
    ∧ (State.reset.ctl.elem (.slot 0)).occ = .uncertain ∧ (∀ i : Fin 24, (State.reset.ctl.elem (.slot i)).occ ≠ .empty) := by
  unfold AtHead; decide

/-- The gripper is searched for, or its cartridge found in it, after a fault: a PUT into S04, into T1, and none had failed; a FETCH of S06 and of T0 had. An AUDIT and a SCAN_ALL held again
join a queue with one free place, the second as an offer. -/
theorem test_PickerHomes_settles_meets :
    let offers : List Order := [auditOrder 3 (.magazine .l) .plain, { Order.powerUpScan with role := .reloadScan }]
    let homing : Ctl := { rest with picker := { Picker.initial with queue := List.replicate 7 mover, auditOffers := offers } }
    let failed (k : Ctl) (e d : Option Element) : Ctl := { k with picker := { k.picker with failed := some { source := e, putDest := d, requester := some (.link .a) } } }
    let home (k : Ctl) (hold tr : Bool) : Option Ctl := match exec (.homeDone hold tr) (st k) with
      | .next t => some t.ctl
      | _ => none
    let g := put homing 1 .gripper
    let s4 := failed g none (some (.slot 3))
    let t1 := failed g none (some (.transport .c1))
    let f (e : Element) := failed (put homing 1 e) (some e) none
    (homing.picker.auditOffers.all fun o => decide (o.kind = .audit ∨ o.kind = .scanAll)) = true
    ∧ ((home homing false false).map fun t => (t.picker.queue.length, t.picker.held.length, t.picker.state)) = some (8, 1, .idle)
    ∧ ((home (el homing .gripper fun r => { r with occ := .uncertain }) true false).map fun t => ((t.elem .gripper).occ, t.picker.state)) = some (.uncertain, .idle)
    ∧ ((g.elem .gripper).entry.isSome = true ∧ s4.picker.failed.bind (·.putDest) = some (.slot 3) ∧ s4.standsElsewhere (lab 1) .gripper = false)
    ∧ ((home s4 false false).map fun t => (t.picker.cmd, t.picker.phase, (t.elem .gripper).occ)) = some (some (.read (.slot 3)), .homeReading (.slot 3), .empty)
    ∧ ((home t1 false true).map fun t => (t.labelAt (.transport .c1), (t.tr .c1).state, t.picker.state)) = some (some (lab 1), .ejected, .idle)
    ∧ ((home t1 false false).map fun t => (t.cat.cart? (lab 1), t.picker.state)) = some (some (cart 1 none), .idle)
    ∧ ((home g false true).map fun t => t.cat.cart? (lab 1)) = some (some (cart 1 none))
    ∧ ((home (f (.slot 5)) true false).map fun t => (t.picker.cmd, t.labelAt .gripper, (t.elem (.slot 5)).occ)) = some (some (.put (.slot 5)), some (lab 1), .empty)
    ∧ ((home (f (.transport .c0)) true false).map fun t => (t.picker.cmd, t.labelAt .gripper)) = some (some (.put (.slot 1)), some (lab 1))
    ∧ ((home homing true false).map fun t => (t.picker.cmd, (t.elem .gripper).occ)) = some (some (.put (.slot 0)), .full) := by decide +kernel

/-- The READ of the search finds nothing, the cartridge itself, and another. -/
theorem test_PickerHomes_read_meets :
    let k : Ctl := { put rest 1 .gripper with picker := { Picker.initial with cmd := some (.read (.slot 3)), phase := .homeReading (.slot 3),
                                                                              carried := ((put rest 1 .gripper).elem .gripper).entry } }
    let k := k.setElem .gripper { occ := .empty, entry := none, reserved := none }
    (k.picker.carried.isSome = true ∧ k.picker.auditOffers = [] ∧ Ans k ∧ k.standsElsewhere (lab 1) (.slot 3) = false)
    ∧ readLeaves k (.slot 3) .noCartridge = some (.empty, none, some .pickerIdle) ∧ readLeaves k (.slot 3) .unreadable = some (.full, some (lab 1), some .pickerIdle)
    ∧ readLeaves k (.slot 3) (.label (lab 2)) = some (.full, some (lab 2), some .pickerIdle) := by
  exact ⟨by decide, by decide +kernel, by decide +kernel, by decide +kernel⟩

/-- Orders that start: from a slot, from the gripper, an AUDIT; one that fails; and no order. -/
theorem test_OrdersStart_meets :
    let slot := queued (put rest 1 (.slot 0)) mover
    let grip := { mover with source := .element .gripper }
    let audit := auditOrder 1 (.magazine .l) .plain
    let audits := queued (rest.setDoor .l { Door.initial with state := .audit }) audit
    (Ans slot ∧ slot.picker.state = .idle ∧ slot.oldestWaiting = some mover ∧ mover.kind ≠ .audit ∧ mover.kind ≠ .scanAll
      ∧ slot.startChecks mover = .goes (.slot 0) (.slot 2))
    ∧ ((queued (put rest 1 .gripper) grip).oldestWaiting = some grip ∧ (queued (put rest 1 .gripper) grip).startChecks grip = .goes .gripper (.slot 2))
    ∧ (audits.oldestWaiting = some audit ∧ audit.kind = .audit ∧ audit.source = .magazine .l ∧ Mag.l.slots.head? = some (.slot 0))
    ∧ rest.oldestWaiting = none
    ∧ ((queued rest mover).picker.state = .idle ∧ (queued rest mover).oldestWaiting = some mover ∧ mover.kind = .move ∧ mover.role = .plain
      ∧ (queued rest mover).startChecks mover = .fails .noCartridge ∧ (queued rest mover).picker.held = []
      ∧ (rest.door .l).state ≠ .asking ∧ (rest.door .r).state ≠ .asking ∧ (rest.chan .c0).drain = none ∧ (rest.chan .c1).drain = none) := by decide

/-- An order from an element, of no import and not RUNNING; HOME with the home slot EMPTY and free, reserved by another, FULL and UNCERTAIN, and with no slot free; an order that each
cause of R29 defers, and one behind a deferred one. -/
theorem test_OrdersStart_checks_meets :
    let u : Order := { mover with kind := .unload, source := .element (.transport .c0), dest := .home }
    let ld : Order := { mover with kind := .load, dest := .element (.transport .c0) }
    let k := mount rest 1 .c0 0
    let en := (k.elem (.transport .c0)).entry
    let acclimating := el (put rest 1 (.slot 0)) (.slot 0) fun r => { r with entry := r.entry.map fun e => { e with acclim := 3 } }
    (u.source = .element (.transport .c0) ∧ u.role = .plain ∧ u.state ≠ .running ∧ u.kind ≠ .load)
    ∧ (en.bind (·.home) = some 1 ∧ (k.elem (.slot 1)).occ = .empty ∧ (k.elem (.slot 1)).reserved = none
      ∧ ((el k (.slot 1) fun r => { r with reserved := some (.link .b) }).elem (.slot 1)).reserved = some (.link .b)
      ∧ ((put k 2 (.slot 1)).elem (.slot 1)).occ = .full ∧ ((el k (.slot 1) fun r => { r with occ := .uncertain }).elem (.slot 1)).occ = .uncertain
      ∧ (k.elem (.slot 0)).occ = .empty ∧ k.inv.protect.covers 0 = false ∧ (k.door .l).state = .locked)
    ∧ (∀ i : Fin 24, (State.reset.ctl.elem (.slot i)).occ ≠ .empty)
    ∧ (((rest.setDoor .l { Door.initial with state := .asking }).door .l).state ≠ .locked ∧ ((Element.slot 0).mag = some .l))
    ∧ ((put rest 2 .gripper).elem .gripper).occ ≠ .empty ∧ (put rest 2 .gripper).picker.state = .idle
    ∧ (∃ en, (acclimating.elem (.slot 0)).entry = some en ∧ 0 < en.acclim) ∧ ((put rest 2 (.transport .c0)).elem (.transport .c0)).occ ≠ .empty
    ∧ ((rest.setTr .c0 { rest.tr .c0 with state := .faulted }).tr .c0).state = .faulted
    ∧ (let q : Ctl := queued (queued acclimating ld) { mover with id := 2 }
       q.picker.queue = [ld] ++ { mover with id := 2 } :: [] ∧ q.deferred ld = true ∧ q.deferred { mover with id := 2 } = false ∧ mover.state = .ready) := by
  refine ⟨by decide, by decide, by decide, by decide, by decide, by decide, ⟨_, rfl, by decide⟩, by decide, by decide, by decide⟩

/-- A FETCH in progress from a slot and from a transport, of a cartridge with a label and of one with none, that stands in no other element; one that the order does not want; and an
import's. The label read may be the same, another, or unreadable. -/
theorem test_FetchMovesEntry_meets :
    let k := running (put rest 1 (.slot 0)) mover (.fetch (.slot 0)) (.fetching (.slot 2))
    let un := { mover with kind := .unload, source := .element (.transport .c0) }
    let u := running (mount rest 1 .c0 0) un (.fetch (.transport .c0)) (.fetching (.slot 2))
    let blank := running (el (put rest 1 (.slot 0)) (.slot 0) fun r => { r with entry := r.entry.map fun e => { e with label := none } }) mover (.fetch (.slot 0)) (.fetching (.slot 2))
    let im := mailMove 1 (some (.link .a)) .mail (.element (.slot 4)) none (.importMove (some 4))
    let i := running (rest.setElem .mail { occ := .full, entry := none, reserved := none }) im (.fetch .mail) (.fetching (.slot 4))
    let wrong := activityLoad 1 (.link .a) (.chan .c0) (.slot 0) .c0 .write (lab 2)
    (k.picker.cmd = some (.fetch (.slot 0)) ∧ k.picker.phase = .fetching (.slot 2) ∧ k.picker.running = some { mover with state := .running } ∧ Ans k
      ∧ k.labelAt (.slot 0) = some (lab 1) ∧ k.standsElsewhere (lab 1) (.slot 0) = false ∧ k.standsElsewhere (lab 2) (.slot 0) = false ∧ lab 2 ≠ lab 1
      ∧ readableLabel (lab 1) = true ∧ readableLabel (lab 2) = true ∧ mover.role = .plain ∧ mover.kind = .move ∧ k.picker.held = []
      ∧ (k.door .l).state ≠ .asking ∧ (k.door .r).state ≠ .asking ∧ (k.chan .c0).drain = none ∧ (k.chan .c1).drain = none)
    ∧ (u.picker.running = some { un with state := .running } ∧ u.labelAt (.transport .c0) = some (lab 1) ∧ (u.tr .c0).state ≠ .faulted)
    ∧ (blank.picker.cmd = some (.fetch (.slot 0)) ∧ (∃ en, (blank.elem (.slot 0)).entry = some en ∧ en.label = none)
      ∧ blank.standsElsewhere (0x3F#8 :: (Element.slot 0).name) (.slot 0) = false ∧ blank.labelAt (.slot 0) = none)
    ∧ (i.picker.cmd = some (.fetch .mail) ∧ i.picker.phase = .fetching (.slot 4) ∧ i.picker.running = some { im with state := .running } ∧ i.labelAt .mail = none
      ∧ i.standsElsewhere (lab 1) .mail = false)
    ∧ (wrong.internal = true ∧ wrong.wanted = some (lab 2)) := by
  exact ⟨by decide, by decide, ⟨rfl, ⟨_, rfl, rfl⟩, by decide, by decide⟩, by decide, by decide⟩

/-- A PUT in progress into a slot, of a MOVE and of a LOAD. -/
theorem test_PutDoneSetsDown_meets :
    let k := running (put rest 1 .gripper) mover (.put (.slot 2)) (.putting (.slot 2))
    let ld := { mover with kind := .load, dest := .element (.transport .c0) }
    let t := running (put rest 1 .gripper) ld (.put (.transport .c0)) (.putting (.transport .c0))
    (k.picker.cmd = some (.put (.slot 2)) ∧ k.picker.phase = .putting (.slot 2) ∧ k.picker.running = some { mover with state := .running } ∧ mover.role = .plain
      ∧ mover.kind ≠ .load ∧ (k.elem .gripper).entry.isSome = true ∧ Ans k ∧ k.labelAt .gripper = some (lab 1) ∧ k.standsElsewhere (lab 1) .gripper = false)
    ∧ (t.picker.cmd = some (.put (.transport .c0)) ∧ t.picker.phase = .putting (.transport .c0) ∧ t.picker.running = some { ld with state := .running }
      ∧ ld.source = .element (.slot 0)) := by decide

/-- Nothing follows the end of a MOVE; a LOAD of a requester, of a session, of a restore and of a verify entry. -/
theorem test_PutDoneSetsDown_quiet_meets :
    let k := running (put rest 1 .gripper) mover (.put (.slot 2)) (.putting (.slot 2))
    let ld (r : Option Raiser) (k : Ctl) := running (put k 1 .gripper) { mover with kind := .load, dest := .element (.transport .c0), raisedBy := r }
      (.put (.transport .c0)) (.putting (.transport .c0))
    let threads (k : Ctl) : Option (Option Task) := match exec .putDone (st k) with
      | .next t => some ((t.ctl.tr .c0).order.map (·.task))
      | _ => none
    LeavesQuietly k ∧ NobodyWaits k none ∧ mover.unloadAfter = false ∧ (k.elem .gripper).entry.bind (·.label) = some (lab 1)
    ∧ LeavesQuietly (ld none rest) ∧ NobodyWaits (ld none rest) none ∧ ((ld none rest).tr .c0).state = .empty ∧ ((ld none rest).tr .c0).order = none
    ∧ threads (ld none rest) = some (some .plainThread) ∧ threads (ld (some (.chan .c0)) (writes rest { sess with state := .loading })) = some (some .sThread)
    ∧ threads (ld (some .storeController) rest) = some (some .cThread) := by
  exact ⟨test_quiet (by decide), test_alone (by decide) none, by decide, by decide, test_quiet (by decide), test_alone (by decide) none, by decide⟩

/-- An AUDIT of magazine L at its last slot but one and at its last, and SCAN_ALL at two slots and at M: the element has a label, has none, and has one that stands in another
element too. -/
theorem test_AuditReadRebuilds_meets :
    let a := auditOrder 1 (.magazine .l) .plain
    let scan : Order := { Order.powerUpScan with id := 1, role := .reloadScan }
    let audits (k : Ctl) (es : List Element) := running (k.setDoor .l { Door.initial with state := .audit }) a (.read (.slot 10)) (.scanning es)
    let k := audits rest [.slot 10, .slot 11]
    let kept := audits (put rest 1 (.slot 10)) [.slot 10, .slot 11]
    let sc := running rest scan (.read (.slot 10)) (.scanning [.slot 10, .slot 11])
    let m := running rest scan (.read .mail) (.scanning [.mail])
    (k.picker.cmd = some (.read (.slot 10)) ∧ k.picker.phase = .scanning [.slot 10, .slot 11] ∧ k.picker.running = some { a with state := .running } ∧ Ans k ∧ a.kind = .audit
      ∧ a.source = .magazine .l ∧ a.role = .plain ∧ readableLabel (lab 1) = true ∧ k.labelAt (.slot 10) = none ∧ k.standsElsewhere (lab 1) (.slot 10) = false)
    ∧ (kept.labelAt (.slot 10) = some (lab 1) ∧ kept.standsElsewhere (lab 1) (.slot 10) = false)
    ∧ ((put k 1 (.slot 3)).standsElsewhere (lab 1) (.slot 10) = true ∧ (put k 1 (.slot 3)).standsElsewhere (0x3F#8 :: (Element.slot 10).name) (.slot 10) = false)
    ∧ ((put kept 1 (.slot 3)).labelAt (.slot 10) = some (lab 1) ∧ (put kept 1 (.slot 3)).standsElsewhere (lab 1) (.slot 10) = true)
    ∧ (sc.picker.running = some { scan with state := .running } ∧ scan.kind = .scanAll ∧ sc.scanSkips scan (.slot 10) = false ∧ sc.scanSkips scan (.slot 11) = false
      ∧ Order.powerUpScan.role = .powerUpScan)
    ∧ (let e := running (put rest 1 (.slot 3)) a (.read (.slot 11)) (.scanning [.slot 11])
       e.picker.phase = .scanning [.slot 11] ∧ e.picker.held = [] ∧ e.session .c0 = none ∧ e.session .c1 = none ∧ (e.chan .c0).drain = none ∧ (e.chan .c1).drain = none
         ∧ e.restore.running = [] ∧ e.verify.queue = [] ∧ (e.door .l).state ≠ .asking ∧ (e.door .r).state ≠ .asking ∧ Ans e)
    ∧ (m.picker.cmd = some (.read .mail) ∧ m.picker.phase = .scanning [.mail] ∧ m.inv.mail.forced = false ∧ (m.tr .c0).present = false ∧ (m.tr .c1).present = false
      ∧ (m.elem .gripper).occ = .empty) := by decide

/-- A FETCH that has been retried once and one that has been retried twice; a HOME, a put-back that has been retried; an AUDIT, and one that a door has stopped; and no command. -/
theorem test_PickerFaults_meets :
    let k (n : Nat) := running (put rest 1 (.slot 0)) { mover with retry := n } (.fetch (.slot 0)) (.fetching (.slot 2))
    ((k 1).picker.cmd = some (.fetch (.slot 0)) ∧ (k 1).picker.running = some { mover with retry := 1, state := .running } ∧ 1 < 2)
    ∧ ((k 2).picker.running = some { mover with retry := 2, state := .running } ∧ 2 ≤ 2)
    ∧ ({ rest with picker := Picker.initial }.picker.cmd ≠ none ∧ { rest with picker := Picker.initial }.picker.running = none)
    ∧ (let p (n : Nat) : Ctl := { rest with picker := { Picker.initial with cmd := some (.put (.slot 1)), phase := .homePutBack (.slot 1), homeRetry := n } }
       (p 1).picker.running = none ∧ (p 1).picker.homeRetry < 2 ∧ 2 ≤ (p 2).picker.homeRetry)
    ∧ (let a (ph : Phase) := running rest (auditOrder 1 (.magazine .l) .plain) (.read (.slot 0)) ph
       LeavesQuietly (k 2) ∧ LeavesQuietly (a .scanStopped) ∧ (a .scanStopped).picker.phase = .scanStopped ∧ (a (.scanning [.slot 0])).picker.phase ≠ .scanStopped)
    ∧ rest.picker.cmd = none := by
  exact ⟨by decide, by decide, by decide, by decide, ⟨test_quiet (by decide), test_quiet (by decide), by decide⟩, by decide⟩

/-! ## Hypotheses of the statements: climate -/

/-- Settings at their lists' ends and beyond one; the interval's request. -/
theorem test_ClimateSettingsStored_meets :
    AtHead (st (asks rest .panel (.setWatch 1 1 1 (-41) 1 1))) .panel (hd (.setWatch 1 1 1 (-41) 1 1)) (.setWatch 1 1 1 (-41) 1 1)
    ∧ (AtHead (st (asks rest .panel (.setWatch 0 0 0 141 0 2))) .panel (hd (.setWatch 0 0 0 141 0 2)) (.setWatch 0 0 0 141 0 2) ∧ 1 < 2)
    ∧ AtHead (st (asks rest .panel (.setClimateInterval 0))) .panel (hd (.setClimateInterval 0)) (.setClimateInterval 0) ∧ rest.climate.failSafe = false := by
  unfold AtHead; decide

theorem test_AcclimationCounts_meets :
    AtHead (st (asks rest .panel (.setAcclimation 241))) .panel (hd (.setAcclimation 241)) (.setAcclimation 241)
    ∧ (AtHead (st (asks (put rest 1 (.slot 23)) .panel (.clearAcclimation (lab 1)))) .panel (hd (.clearAcclimation (lab 1))) (.clearAcclimation (lab 1))
      ∧ (put rest 1 (.slot 23)).findLabel (lab 1) = some (.slot 23) ∧ ((put rest 1 (.slot 23)).elem (.slot 23)).entry ≠ none)
    ∧ { rest.store with state := .clean }.state = .clean ∧ (rest.elem (.slot 0)).entry = none := by unfold AtHead; decide

/-- Readings outside the range at its edges, and inside it at its edges. -/
theorem test_readings_meet :
    let k := { rest with climate := { rest.climate with reading := some .w1 } }
    let h := { rest with climate := { rest.climate with reading := some .w2, failures := 2 } }
    (k.climate.reading = some .w1 ∧ (k.climate.watches.get .w1).quantity = .temperature ∧ (-41 : Int) < -40 ∧ (140 : Int) < 141)
    ∧ (h.climate.reading = some .w2 ∧ (h.climate.watches.get .w2).quantity = .humidity ∧ (-1 : Int) < 0 ∧ (100 : Int) < 101)
    ∧ rest.climate.reading = none ∧ ((-40 : Int) ≤ -40 ∧ (-40 : Int) ≤ 140) ∧ ((0 : Int) ≤ 100 ∧ (100 : Int) ≤ 100) := by decide

/-- The law holds, with the hold active for a crossed watch; a command and the tick answer a next state from there. -/
theorem test_ClimateLawKept_meets :
    let c : Climate := { Climate.initial with results := ⟨{ valid := true, crossed := true }, { valid := false, crossed := false }⟩, hold := true, sampling := .suspended }
    c.Law ∧ (∃ t, step { st { rest with climate := c } with pending := [.sampleIntervalExpiry] } = .next t) ∧ ∃ t, step (st { rest with climate := c }) = .next t := by
  refine ⟨⟨by decide, by decide, nofun, ?_, ⟨nofun, fun h => absurd (h .w1) nofun⟩, fun _ => rfl, nofun⟩, ⟨_, rfl⟩, ⟨_, rfl⟩⟩
  intro w h; cases w <;> exact absurd h nofun

/-! ## Hypotheses of the statements: the catalog and the dictionaries -/

/-- Every read request, with operands inside its list and beyond it. -/
theorem test_ReadsAnswer_meets :
    AtHead (st (asks rest .panel (.readInventory 1))) .panel (hd (.readInventory 1)) (.readInventory 1) ∧ AtHead (st (asks rest .panel .readQueue)) .panel (hd .readQueue) .readQueue
    ∧ AtHead (st (asks rest .panel .readClimate)) .panel (hd .readClimate) .readClimate
    ∧ AtHead (st (asks rest .panel (.readCartridge (lab 1)))) .panel (hd (.readCartridge (lab 1))) (.readCartridge (lab 1))
    ∧ AtHead (st (asks rest .panel (.readSet 1 (.index 64)))) .panel (hd (.readSet 1 (.index 64))) (.readSet 1 (.index 64))
    ∧ AtHead (st (asks rest .panel (.listSets .all 65536))) .panel (hd (.listSets .all 65536)) (.listSets .all 65536)
    ∧ (AtHead (st (asks rest .panel (.listSets (.owner 1) 1))) .panel (hd (.listSets (.owner 1) 1)) (.listSets (.owner 1) 1) ∧ linkOf 1 = some .b)
    ∧ (AtHead (st (asks rest .panel (.listSets (.owner 2) 0))) .panel (hd (.listSets (.owner 2) 0)) (.listSets (.owner 2) 0) ∧ 1 < 2)
    ∧ AtHead (st (asks rest .panel (.listSets (.other 3) 0))) .panel (hd (.listSets (.other 3) 0)) (.listSets (.other 3) 0)
    ∧ (AtHead (st (asks rest .panel (.listSets (.cartridge (lab 1)) 1))) .panel (hd (.listSets (.cartridge (lab 1)) 1)) (.listSets (.cartridge (lab 1)) 1)
      ∧ rest.cat.cart? (lab 1) = none ∧ (put rest 1 (.slot 0)).cat.cart? (lab 1) = some (cart 1 (some (.slot 0))))
    ∧ AtHead (st (asks rest .panel (.readDictionary 4))) .panel (hd (.readDictionary 4)) (.readDictionary 4)
    ∧ AtHead (st (asks rest .panel .readVerify)) .panel (hd .readVerify) .readVerify ∧ AtHead (st (asks rest .panel .readStore)) .panel (hd .readStore) .readStore := by
  unfold AtHead; decide

/-- Set 1 of Link A, written on day 100 and kept 30 days: the days at which each answer is given. -/
theorem test_RetentionAnswers_meets :
    let k := withSet rest (set 1 1)
    let e := withSet rest { set 1 1 with state := .expired }
    (AtHead (st (asks k (.link .a) (.expireSet 1 130))) (.link .a) (hd (.expireSet 1 130)) (.expireSet 1 130) ∧ k.cat.set? 1 = some (set 1 1)
      ∧ (set 1 1).writtenDay + (set 1 1).retention ≤ 130 ∧ (set 1 1).state ≠ .expired ∧ k.setRestoring 1 = false ∧ k.verifyOf 1 = none)
    ∧ (AtHead (st (asks k (.link .a) (.expireSet 1 129))) (.link .a) (hd (.expireSet 1 129)) (.expireSet 1 129) ∧ ¬(set 1 1).writtenDay + (set 1 1).retention ≤ 129)
    ∧ (AtHead (st (asks k (.link .a) (.expireSet 2 0))) (.link .a) (hd (.expireSet 2 0)) (.expireSet 2 0) ∧ k.cat.set? 2 = none)
    ∧ e.cat.set? 1 = some { set 1 1 with state := .expired }
    ∧ (AtHead (st (asks k (.link .b) (.setRetention 1 40))) (.link .b) (hd (.setRetention 1 40)) (.setRetention 1 40) ∧ (set 1 1).owner ≠ .b)
    ∧ (AtHead (st (asks k (.link .a) (.setRetention 1 29))) (.link .a) (hd (.setRetention 1 29)) (.setRetention 1 29) ∧ min 29 3650 < (set 1 1).retention)
    ∧ (AtHead (st (asks k .panel (.setRetention 1 29))) .panel (hd (.setRetention 1 29)) (.setRetention 1 29) ∧ k.inv.key = .opened)
    ∧ (AtHead (st (asks k (.link .a) (.setRetention 1 30))) (.link .a) (hd (.setRetention 1 30)) (.setRetention 1 30) ∧ min 30 3650 = (set 1 1).retention)
    ∧ (AtHead (st (asks k (.link .a) (.setRetention 1 3651))) (.link .a) (hd (.setRetention 1 3651)) (.setRetention 1 3651) ∧ (set 1 1).retention < min 3651 3650)
    ∧ (AtHead (st (asks e (.link .a) (.setRetention 1 40))) (.link .a) (hd (.setRetention 1 40)) (.setRetention 1 40))
    ∧ AtHead (st (asks k (.link .a) (.setRetention 2 40))) (.link .a) (hd (.setRetention 2 40)) (.setRetention 2 40) := by unfold AtHead; decide

/-- A cartridge out of use in each state that the clauses name; its record without a location. -/
theorem test_CartridgeRequestsAnswered_meets :
    let k (f : Cart → Cart) := { rest with cat := { rest.cat with carts := [f (cart 1 (some (.slot 0)))] } }
    let held := withSet (k fun c => { c with sets := [1] }) (set 1 1)
    let ask (k : Ctl) := AtHead (st (asks k .panel (.reclaim (lab 1)))) .panel (hd (.reclaim (lab 1))) (.reclaim (lab 1))
    let forget (k : Ctl) := AtHead (st (asks k .panel (.forgetCartridge (lab 1)))) .panel (hd (.forgetCartridge (lab 1))) (.forgetCartridge (lab 1))
    (ask rest ∧ forget rest ∧ rest.cat.cart? (lab 1) = none)
    ∧ (ask (k fun c => { c with state := .blank }) ∧ (k fun c => { c with state := .blank }).cat.cart? (lab 1) = some { cart 1 (some (.slot 0)) with state := .blank })
    ∧ (ask (k id) ∧ (k id).cat.cart? (lab 1) = some (cart 1 (some (.slot 0))) ∧ (cart 1 none).state = .opened ∧ (cart 1 none).sets = []
      ∧ (k id).entryProtected ((k id).entryOf (lab 1)) = false ∧ (k id).inUse (lab 1) = false)
    ∧ (ask held ∧ held.cat.set? 1 = some (set 1 1) ∧ (set 1 1).state ≠ .expired ∧ held.inUse (lab 1) = false)
    ∧ (let x := withSet (k fun c => { c with sets := [1] }) { set 1 1 with state := .expired }
       ask x ∧ x.cat.set? 1 = some { set 1 1 with state := .expired } ∧ (set 1 1).extents.all (fun e => decide (e.label = lab 1)) = true ∧ x.inUse (lab 1) = false)
    ∧ (let u := { k (fun c => { c with state := .unknown }) with inv := { rest.inv with key := .lock } }
       ask u ∧ u.inv.key = .lock)
    ∧ (let p := { put rest 1 (.slot 0) with inv := { (put rest 1 (.slot 0)).inv with protect := { dir := .top, idx := 8 } } }
       ask p ∧ p.entryProtected (p.entryOf (lab 1)) = true)
    ∧ (let o := el (k fun c => { c with loc := none }) (.slot 0) fun r => { r with occ := .uncertain, entry := ((put rest 1 (.slot 0)).elem (.slot 0)).entry }
       o.cat.cart? (lab 1) = some (cart 1 none) ∧ o.findLabel (lab 1) = none ∧ o.labelAt (.slot 0) = some (lab 1))
    ∧ (ask (writes (mount rest 1 .c0 1) sess) ∧ (writes (mount rest 1 .c0 1) sess).inUse (lab 1) = true)
    ∧ (forget (k id) ∧ (cart 1 (some (.slot 0))).loc ≠ none)
    ∧ (forget (k fun c => { c with loc := none }) ∧ (k fun c => { c with loc := none }).cat.cart? (lab 1) = some (cart 1 none))
    ∧ (let h := withSet (k fun c => { c with loc := none, sets := [1] }) (set 1 1)
       forget h ∧ h.cat.set? 1 = some (set 1 1)) := by unfold AtHead; decide

/-- Slot 3 free and referenced, and slots 0 and 4. -/
theorem test_DictionaryWritten_meets :
    let ask (k : Ctl) (n : Nat) := AtHead (st (asks k (.link .a) (.writeDictionary n [1]))) (.link .a) (hd (.writeDictionary n [1])) (.writeDictionary n [1])
    let k := withSet rest { set 1 1 with dict := 3 }
    ask rest 0 ∧ ask rest 4 ∧ (ask rest 3 ∧ ∀ r ∈ rest.cat.sets, r.dict = 3 → r.dictGen = rest.dicts.gen 3 → r.state = .expired)
    ∧ (ask k 3 ∧ ∃ r ∈ k.cat.sets, r.dict = 3 ∧ r.dictGen = k.dicts.gen 3 ∧ r.state ≠ .expired)
    ∧ AtHead (st (asks k .panel (.writeDictionary 2 [1]))) .panel (hd (.writeDictionary 2 [1])) (.writeDictionary 2 [1])
    ∧ ∃ t, exec (.writeDictionary (.link .a) 2 [1]) (st (asks k (.link .a) (.writeDictionary 2 [1]))) = .next t := by
  refine ⟨?_, ?_, ?_, ?_, ?_, _, rfl⟩ <;> unfold AtHead <;> decide

/-- Operands at the ends of what the frame holds. -/
theorem test_RequestRoundTrip_meets :
    (Req.setWatch 255 0 1 (-32768) 255 0).wf = true ∧ (Req.openSet 255 (.label (lab 1)) 4294967295 255 65535 65535 255).wf = true
    ∧ (Req.writeDictionary 3 []).wf = true ∧ (Req.restore 65535 4294967295 (.count 4294967295) 1).wf = true := by decide

theorem test_FramesAndBlocksReadBack_meets :
    (1 ≤ 6 ∧ 6 ≤ 6 ∧ 2 ≤ ([1, 2] : List Byte).length ∧ ([1, 2] : List Byte).length ≤ 4160) ∧ (7 < 256 ∧ 6 < 7) ∧ ([] : List Byte).length < 9
    ∧ (([0, 0, 0, 0] : List Byte).length = 4 ∧ ([0, 0, 0, 0] : List Byte) ≠ beBytes 4 (crc (byteOf 1 ++ wordOf 2 ++ [7, 1])).toNat ∧ 3 ≠ ([7, 1] : List Byte).length)
    ∧ (let x := codeBank .b0 (bank .closed [7] 0) ⟨0, 0, false, 0⟩ 0 .empty
       let h := dataHeader (cart 1 none) (set 1 1) x
       1 ≤ h.kind ∧ h.kind ≤ 3 ∧ h.passTag < 256 ∧ h.dict < 256 ∧ h.set < 65536 ∧ h.extent < 256 ∧ h.ends = x.ends.length ∧ h.block < 4294967296
         ∧ h.native ≤ 65536 ∧ 1 ≤ h.native ∧ h.record = h.recordsBefore ∧ h.coded = x.payload.length ∧ h.record < 4294967296 ∧ h.label.length = 8
         ∧ h.generation < 65536 ∧ h.dictGen < 256 ∧ h.day < 65536 ∧ h.before < 4294967296 ∧ ∀ o ∈ x.ends, 1 ≤ o ∧ o ≤ 65536) := by decide +kernel

theorem test_CodingRoundTrip_meets :
    Dicts.empty.slot? 3 = some DictSlot.empty ∧ DictSlot.empty.bytes.length ≤ 1024 ∧ 1 ≤ (bank .closed [7] 0).bytes.length ∧ (bank .closed [7] 0).bytes.length ≤ 65536
    ∧ { set 1 1 with dict := 3 }.dict = 3 ∧ (set 1 1).dictGen = DictSlot.empty.generation := by decide

/-! ## Hypotheses of the statements: write sessions and staging banks -/

/-- Link A's OPEN_SET on channel 0. -/
def openReq (t : TargetArg) : Req := .openSet 0 t 0 0 30 100 0

def opens (k : Ctl) (t : TargetArg) : State := st (asks k (.link .a) (openReq t))

/-- A catalog of 256 sets. -/
def full (k : Ctl) : Ctl := { k with cat := { k.cat with sets := List.replicate 256 (set 9 9) } }

/-- The entry's tab is as given. -/
def withTab (k : Ctl) (e : Element) (t : Tab) : Ctl := k.setElem e { k.elem e with entry := (k.elem e).entry.map fun x => { x with tab := t } }

/-- Link A's OPEN_SET of channel 0 stands at the head of its queue. -/
def Opens (k : Ctl) (t : TargetArg) : Prop := AtHead (opens k t) (.link .a) (hd (openReq t)) (openReq t)

set_option maxRecDepth 4000 in
/-- For a named cartridge, one state for each condition of OPEN_SET's table; for POOL, an empty library and a full catalog. -/
theorem test_OpenSetAnswers_meets :
    let l := TargetArg.label (lab 1)
    let k := put rest 1 (.slot 0)
    Opens k l ∧ chanArg 0 = some (some .c0) ∧ targetOf l = some (some (lab 1)) ∧ k.openIdle .c0 = true ∧ (k.tr .c0).state ≠ .faulted
      ∧ k.cat.cart? (lab 1) = some (cart 1 (some (.slot 0))) ∧ k.findLabel (lab 1) = some (.slot 0) ∧ (cart 1 (some (.slot 0))).loc ≠ none
      ∧ (cart 1 (some (.slot 0))).takesSession = true ∧ k.usedByActivity (lab 1) = false
    ∧ Opens k (.other 2) ∧ AtHead (st (asks k (.link .a) (.openSet 3 .pool 0 0 0 0 0))) (.link .a) (hd (.openSet 3 .pool 0 0 0 0 0)) (.openSet 3 .pool 0 0 0 0 0) ∧ 2 < 3
    ∧ Opens (k.setTr .c0 { k.tr .c0 with state := .faulted }) l ∧ ((k.setTr .c0 { k.tr .c0 with state := .faulted }).tr .c0).state = .faulted := by
  unfold Opens AtHead; decide

theorem test_OpenSetAnswers_cartridge_meets :
    let l := TargetArg.label (lab 1)
    let k := put rest 1 (.slot 0)
    let u := k.setCat { k.cat with carts := [{ cart 1 (some (.slot 0)) with state := .unknown }] }
    let p : Ctl := { k with inv := { k.inv with protect := { dir := .bottom, idx := 8 } } }
    Opens (k.setElem (.transport .c0) { k.elem (.transport .c0) with reserved := some .panel }) l
    ∧ (Opens rest l ∧ rest.cat.cart? (lab 1) = none) ∧ (Opens u l ∧ { cart 1 (some (.slot 0)) with state := .unknown }.takesSession = false)
    ∧ (Opens (put rest 1 .gripper) l ∧ (put rest 1 .gripper).findLabel (lab 1) = some .gripper)
    ∧ (Opens p l ∧ p.entryProtected (p.elem (.slot 0)).entry = true)
    ∧ (Opens (withTab k (.slot 0) .set) l ∧ ((withTab k (.slot 0) .set).elem (.slot 0)).entry.map (·.tab) = some .set)
    ∧ Opens (k.setElem (.slot 0) { k.elem (.slot 0) with reserved := some (.link .b) }) l
    ∧ (Opens (k.setDoor .l { Door.initial with state := .asking }) l ∧ (k.setDoor .l { Door.initial with state := .asking }).doorBusy (.slot 0) = true) := by
  unfold Opens AtHead; decide

set_option maxRecDepth 8000 in
theorem test_OpenSetAnswers_pool_meets :
    (Opens rest .pool ∧ rest.chanIdle .c0 = true ∧ rest.reservedByOther (some (.link .a)) (.transport .c0) = false ∧ rest.cat.carts = [])
    ∧ (rest.tr .c0).state ≠ .faulted ∧ rest.cat.sets.length < 256 ∧ Ans rest
    ∧ (Opens (full rest) .pool ∧ 256 ≤ (full rest).cat.sets.length ∧ Opens (full (put rest 1 (.slot 0))) (.label (lab 1))
      ∧ (full (put rest 1 (.slot 0))).doorBusy (.slot 0) = false) := by
  unfold Opens AtHead; decide

/-- For the POOL choice: an OPEN cartridge that fits, in S01, as the only record; a SCRATCH one there; and one that is SUSPECT, so that nothing fits. -/
theorem test_OpenSetAnswers_choice_meets :
    let x : Session := Session.fresh 1 .a none 0 0 30 100 true
    let pool (f : Cart → Cart) := (put rest 1 (.slot 0)).setCat { rest.cat with carts := [f (cart 1 (some (.slot 0)))] }
    let k := pool id
    let y := cart 1 (some (.slot 0))
    (k.cat.carts = [y] ∧ k.findLabel y.label = some (.slot 0) ∧ (k.elem (.slot 0)).occ = .full ∧ classOf y.label ≠ .unsupported ∧ k.inv.protect.covers 0 = false
      ∧ (k.elem (.slot 0)).reserved = none ∧ (Element.slot 0).mag = some .l ∧ (k.door .l).state = .locked
      ∧ (∃ en, (k.elem (.slot 0)).entry = some en ∧ en.acclim = 0 ∧ en.tab ≠ .set ∧ en.home = some 1) ∧ k.inv.protect.covers 1 = false ∧ k.inUse y.label = false ∧ x.passed = [])
    ∧ (k.setWriting x = false ∧ y.state = .opened ∧ y.early = false ∧ y.sets.length < 32 ∧ x.hint ≤ y.estimate)
    ∧ (pool fun c => { c with state := .scratch }).cat.carts = [{ y with state := .scratch }]
    ∧ (pool fun c => { c with state := .suspect }).cat.carts = [{ y with state := .suspect }] := by
  refine ⟨⟨by decide, by decide, by decide, by decide, by decide, by decide, by decide, by decide, ⟨_, rfl, by decide⟩, by decide⟩, by decide⟩

/-- The channel's session in a state, with the set record in one. -/
def inState (f : Session → Session) (g : Ctl → Ctl) : Ctl := g (writes (mount rest 1 .c0 1) (f sess))

/-- One data block of bank 0 at the transport, the other bank EMPTY. -/
def atTape (k : Ctl) : Ctl :=
  (k.setChan .c0 { k.chan .c0 with
    bank0 := bank .writing [7] 0, buf := .held (codeBank .b0 (bank .writing [7] 0) ⟨0, 0, false, 0⟩ 0 .empty), credits := 2 }).setTr .c0
    { k.tr .c0 with state := .writing, order := some { kind := .write [], task := .sDataWrite .b0 } }

theorem test_SessionRequestsAnswered_meets :
    let x : SetRec := { set 1 1 with state := .writing }
    let asked (k : Ctl) (r : Req) := AtHead (st (asks k (.link .a) r)) (.link .a) (hd r) r
    let closing := inState (fun y => { y with state := .closing }) id
    (asked rest (.sync 1) ∧ asked rest (.closeSet 1) ∧ asked rest (.abortSet 1) ∧ rest.cat.set? 1 = none)
    ∧ ((withSet rest { set 1 1 with owner := .b }).cat.set? 1 = some { set 1 1 with owner := .b } ∧ (withSet rest (set 1 1)).sessionOf 1 = none)
    ∧ (asked streams (.sync 1) ∧ asked streams (.closeSet 1) ∧ streams.cat.set? 1 = some x ∧ x.owner = .a ∧ streams.sessionOf 1 = some (.c0, sess)
      ∧ sess.state = .streaming ∧ sess.syncPending = false ∧ sess.closePending = false ∧ sess.owner = .a ∧ (streams.chan .c0).filling = none)
    ∧ (asked closing (.sync 1) ∧ asked closing (.closeSet 1) ∧ closing.sessionOf 1 = some (.c0, { sess with state := .closing }))
    ∧ (asked (inState (fun y => { y with state := .loading }) id) (.sync 1) ∧ (inState (fun y => { y with syncPending := true }) id).sessionOf 1 = some (.c0, { sess with syncPending := true }))
    ∧ (asked (inState (fun y => { y with state := .aborting }) id) (.abortSet 1))
    ∧ (asked (atTape streams) (.abortSet 1) ∧ (atTape streams).sessionOf 1 = some (.c0, sess) ∧ x.state = .writing ∧ ((atTape streams).chan .c0).bank0.state = .writing
      ∧ ((atTape streams).chan .c0).bank1.state = .empty ∧ ((atTape streams).chan .c0).mode = .write ∧ (atTape streams).picker.held = []) := by
  unfold AtHead; decide

/-- CLOSE_SET with a FILLING bank, and in SUSPENDED. -/
theorem test_SessionRequestsAnswered_close_meets :
    let f := streams.setChan .c0 { streams.chan .c0 with bank0 := { Bank.empty with state := .filling, bytes := [7], ends := [1] } }
    let s := inState (fun y => { y with state := .suspended, kept := some .b0 }) id
    let asked (k : Ctl) := AtHead (st (asks k (.link .a) (.closeSet 1))) (.link .a) (hd (.closeSet 1)) (.closeSet 1)
    (asked f ∧ f.sessionOf 1 = some (.c0, sess) ∧ (f.chan .c0).filling = some .b0 ∧ Ans f)
    ∧ (asked s ∧ s.sessionOf 1 = some (.c0, { sess with state := .suspended, kept := some .b0 }) ∧ s.cat.set? 1 = some { set 1 1 with state := .writing } ∧ Ans s) := by
  unfold AtHead; decide

/-- A bank of 65,535 bytes that FILLS. -/
def nearFull (n : Nat) (ends : List Nat) : Ctl :=
  streams.setChan .c0 { streams.chan .c0 with bank0 := { Bank.empty with state := .filling, bytes := List.replicate n 7, ends := ends }, credits := 2 }

/-- Frames with no payload, on an OFFLINE link, for a channel outside the list, with and without a session, without credit, and for each way a bank takes the bytes. -/
theorem test_DataFrames_meets :
    let k := streams.setChan .c0 { streams.chan .c0 with credits := 1 }
    let x : SetRec := { set 1 1 with state := .writing }
    ([] : List Byte) = [] ∧ ([7] : List Byte) ≠ [] ∧ ([7] : List Byte).length ≤ 4096 ∧ (State.reset.ctl.link .a).online = false ∧ 1 < 2
    ∧ (rest.link .a).online = true ∧ rest.session .c0 = none
    ∧ ((inState (fun y => { y with state := .closing }) id).session .c0 = some { sess with state := .closing })
    ∧ ((inState (fun y => { y with state := .suspended, closePending := true }) id).session .c0 = some { sess with state := .suspended, closePending := true }) ∧ Ans k
    ∧ (let a := (atTape streams).setChan .c0 { (atTape streams).chan .c0 with credits := 0 }
       a.session .c0 = some sess ∧ (a.chan .c0).credits = 0 ∧ a.cat.set? 1 = some x ∧ (a.chan .c0).bank0.state = .writing ∧ (a.chan .c0).bank1.state = .empty)
    ∧ ((atTape streams).session .c0 = some sess ∧ 0 < ((atTape streams).chan .c0).credits ∧ (atTape streams).session .c1 = none ∧ x.state = .writing)
    ∧ (k.session .c0 = some sess ∧ sess.owner = .a ∧ sess.state ≠ .suspended ∧ 0 < (k.chan .c0).credits ∧ (k.chan .c0).intake none = some .b0) := by decide

set_option maxRecDepth 10000 in
/-- Frames that leave the bank just short of 255 record ends, and that reach them; frames that fill it to 65,535 and to 65,536 bytes, and that run over into the other. -/
theorem test_DataFrames_full_meets :
    (((nearFull 10 (List.replicate 253 1)).chan .c0).intake none = some .b0 ∧ (List.replicate 253 1 ++ [11]).length < 255)
    ∧ (((nearFull 10 (List.replicate 254 1)).chan .c0).intake none = some .b0 ∧ 255 ≤ (List.replicate 254 1 ++ [11]).length)
    ∧ (∀ n ≤ 65536, ((nearFull n []).chan .c0).bank0.bytes.length = n) ∧ (65534 + 1 < 65536 ∧ 65535 + 1 = 65536 ∧ 65536 < 65535 + 2)
    ∧ ((nearFull 65535 []).chan .c0).bank1 = .empty := by
  refine ⟨by decide, by decide, fun n _ => List.length_replicate .., by decide, rfl⟩

/-- The law of write credits holds where 16 credits are outstanding and a bank is EMPTY, and where 2 are and the FILLING bank has room for them; commands answer there. -/
theorem test_WriteCreditLawKept_meets :
    let k (b : Bank) (n : Nat) : Ctl := streams.setChan .c0 { streams.chan .c0 with bank0 := b, bank1 := { Bank.empty with state := .lent }, credits := n }
    let f : Bank := { Bank.empty with state := .filling, bytes := [7, 8], ends := [2] }
    (∀ c, CreditLaw ((k .empty 16).chan c)) ∧ (∀ c, CreditLaw ((k f 2).chan c)) ∧ (∃ t, exec (.creditGrant .c0) (st (k .empty 16)) = .next t)
      ∧ ∃ t, exec (.dataOut .a 0 1 [7]) (st (k f 2)) = .next t := by
  refine ⟨fun c => ⟨fun i => ?_, ?_, ?_⟩, fun c => ⟨fun i => ?_, ?_, ?_⟩, ⟨_, rfl⟩, ⟨_, rfl⟩⟩
  · cases c <;> cases i <;> decide
  · cases c <;> decide
  · cases c <;> exact .inr (.inl ⟨.b0, rfl⟩)
  · cases c <;> cases i <;> decide
  · cases c <;> decide
  · cases c
    · exact .inr (.inr ⟨.b0, rfl, by decide, by decide⟩)
    · exact .inl rfl

/-- A CLOSED bank and an idle coder; both CLOSED; a bank being coded, at the end-of-data, away from it, and with the tab SET; SYNC done and not done. -/
theorem test_BanksGrantsAndSyncs_meets :
    let y := cart 1 (some (.transport .c0))
    let r : SetRec := { set 1 1 with state := .writing }
    let closed := streams.setChan .c0 { streams.chan .c0 with bank0 := bank .closed [7] 0 }
    let both := closed.setChan .c0 { closed.chan .c0 with bank1 := bank .closed [8] 1 }
    let coded := streams.setChan .c0 { streams.chan .c0 with bank0 := bank .coding [7] 0, coder := .coding .b0 .empty }
    let x := codeBank .b0 (bank .coding [7] 0) ⟨0, 0, false, 0⟩ 0 .empty
    (LawOfWriting coded y (coded.entryIn .c0) ∧ ¬LawOfWriting coded y ((coded.entryIn .c0).map fun e => { e with tab := .set }))
    ∧ (closed.session .c0 = some sess ∧ (closed.chan .c0).buf = .free ∧ (closed.chan .c0).coder = .idle ∧ sess.state = .streaming ∧ ((closed.chan .c0).bank .b0).state = .closed
      ∧ ((closed.chan .c0).bank .b1).state = .empty)
    ∧ (((both.chan .c0).bank .b1).state = .closed ∧ ((both.chan .c0).bank .b0).stamp = some ⟨0, 0, false, 0⟩ ∧ ((both.chan .c0).bank .b1).stamp = some ⟨1, 0, false, 0⟩ ∧ 0 < 1)
    ∧ ((streams.chan .c0).coder = .idle ∧ (streams.chan .c0).bank0.state ≠ .closed)
    ∧ ((coded.chan .c0).coder = .coding .b0 .empty ∧ ((coded.chan .c0).bank .b0).state = .coding ∧ Ans coded ∧ coded.session .c0 = some sess ∧ coded.cat.set? 1 = some r ∧ coded.cartIn .c0 = some y
      ∧ ((coded.chan .c0).bank .b0).stamp = some ⟨0, 0, false, 0⟩ ∧ (coded.chan .c0).claim = none
      ∧ y.frames + x.cost ≤ (classOf y.label).capacity - 2 ∧ (coded.tr .c0).state = .mounted ∧ (coded.tr .c0).order = none ∧ (coded.tr .c0).pos = y.eod)
    ∧ ((coded.setTr .c0 { coded.tr .c0 with pos := 0 }).tr .c0).pos ≠ y.eod
    ∧ ((streams.link .a).online = true ∧ sess.closePending = false ∧ (streams.chan .c0).bank0.state = .empty ∧ (streams.chan .c0).credits < 16)
    ∧ 16 ≤ ({ streams.chan .c0 with credits := 16 } : Channel).credits
    ∧ (let s := inState (fun z => { z with syncPending := true, syncUpTo := 1, banksClosed := 1 }) id
       s.session .c0 = some { sess with syncPending := true, syncUpTo := 1, banksClosed := 1 } ∧ (s.chan .c0).bank0.state = .empty ∧ (s.chan .c0).bank1.state = .empty)
    ∧ sess.syncPending = false := by
  exact ⟨⟨test_lawful (by decide), fun h => h.2.1 _ rfl rfl⟩, by decide⟩

/-- A restore of set 2 that waits to claim channel 0 from the session, with its own cartridge in the transport. -/
def claimer : RestoreCtx := { RestoreCtx.fresh 1 .b 1 0 0 false 0 0 with state := .claiming }

theorem test_SessionSteps_meets :
    let y := cart 1 (some (.transport .c0))
    let r : SetRec := { set 1 1 with state := .writing }
    let c := inState (fun x => { x with state := .closing }) id
    let s := inState (fun x => { x with state := .suspending }) fun k =>
      ((k.setChan .c0 { k.chan .c0 with claim := some (.restore 1) }).setTr .c0 { k.tr .c0 with pos := 0 }).setRestore { k.restore with running := [claimer] }
    let n : Session := { sess with state := .needCartridge, needTimer := true, chosen := none }
    let w := (put (writes rest n) 1 (.slot 0)).setCat { carts := [{ cart 1 (some (.slot 0)) with state := .scratch }], sets := [SetRec.fresh 1 .a 100 30 0 0], nextSetId := 2 }
    LawOfWriting c y (c.entryIn .c0)
    ∧ (c.session .c0 = some { sess with state := .closing } ∧ (c.chan .c0).bank0.state = .empty ∧ (c.chan .c0).bank1.state = .empty ∧ c.cat.set? 1 = some r
      ∧ c.cartIn .c0 = some y ∧ (c.tr .c0).state = .mounted ∧ (c.tr .c0).order = none ∧ (c.tr .c0).rejected = none
      ∧ (c.tr .c0).pos = y.eod)
    ∧ (sess.state ≠ .closing ∧ sess.state ≠ .aborting ∧ sess.state ≠ .suspending ∧ sess.needTimer = false)
    ∧ (s.session .c0 = some { sess with state := .suspending } ∧ (s.chan .c0).claim = some (.restore 1) ∧ s.restore? 1 = some claimer ∧ claimer.state = .claiming
      ∧ s.restoreLabel claimer = s.labelIn .c0 ∧ s.labelIn .c0 ≠ none ∧ (s.tr .c0).state = .mounted ∧ (s.tr .c0).order = none ∧ (s.tr .c0).pos = 0
      ∧ (s.chan .c0).bank0.state = .empty ∧ (s.chan .c0).bank1.state = .empty ∧ (s.chan .c0).filling.getD .b0 = .b0 ∧ (s.chan .c0).credits = 0)
    ∧ (w.session .c0 = some n ∧ w.poolChoice n = some (lab 1) ∧ w.setWriting n = false ∧ (w.elem (.transport .c0)).occ = .empty
      ∧ w.findLabel (lab 1) = some (.slot 0) ∧ w.picker.queue.length < 8) := by
  exact ⟨test_lawful (by decide), by decide⟩

/-- The law of channel activity holds while a session streams on channel 0, and a block of it is written there. -/
theorem test_SessionSteps_law_meets : ActivityLaw (atTape streams) ∧ ∃ t, exec (.blockWritten .c0) (st (atTape streams)) = .next t := by
  have h0 : ∀ c x, (atTape streams).session c = some x → c = .c0 ∧ x = sess := fun c x h => by
    cases c
    · exact ⟨rfl, (Option.some.inj h).symm⟩
    · exact absurd h nofun
  refine ⟨⟨test_answered ⟨rfl, rfl, nofun, nofun⟩, fun c x h => ?_, fun x y _ h => absurd h nofun, fun r h => absurd h nofun, fun v h => absurd h nofun, fun c x h hm => ?_,
    fun c x h hm => ?_, fun c hm => ?_, fun c h => ?_, fun r h => absurd h nofun, fun c o h _ => ?_, fun o h => absurd h nofun, fun c => by cases c <;> decide⟩, _, rfl⟩
  · obtain ⟨rfl, rfl⟩ := h0 c x h
    exact ⟨_, rfl, .inr rfl⟩
  · obtain ⟨rfl, -⟩ := h0 c x h
    exact absurd hm nofun
  · obtain ⟨rfl, -⟩ := h0 c x h
    exact absurd hm nofun
  · cases c
    · exact absurd hm nofun
    · rfl
  · cases c <;> exact absurd rfl h
  · cases c
    · exact ⟨rfl, fun x hx => by obtain ⟨-, rfl⟩ := h0 _ x hx; decide⟩
    · exact absurd h nofun

/-! ## Hypotheses of the statements: transports and tape blocks -/

/-- A THREAD of a session that is LOADING its cartridge; orders of no activity; reports that answer nothing. -/
theorem test_TransportReports_meets :
    let p := ordered (put rest 1 (.transport .c0)) .c0 .threading .thread .plainThread
    let m := ordered (mount rest 1 .c0 3) .c0 .mounted .thread .plainThread
    let s := ordered (writes (put rest 1 (.transport .c0)) { sess with state := .loading }) .c0 .threading .thread .sThread
    let e := ordered (mount rest 1 .c0 3) .c0 .ejecting .eject .eject
    let y := cart 1 (some (.transport .c0))
    NothingWaits p .c0 ∧ Ans p
    ∧ ((p.chan .c0).drain = none ∧ (p.chan .c1).drain = none ∧ (p.tr .c0).order = some { kind := .thread, task := .plainThread } ∧ (p.tr .c0).state = .threading
      ∧ (p.tr .c0).pendingEject = false)
    ∧ ((m.tr .c0).order = some { kind := .thread, task := .plainThread } ∧ (m.tr .c0).state = .mounted)
    ∧ ((s.tr .c0).order = some { kind := .thread, task := .sThread } ∧ (s.tr .c0).state = .threading ∧ (s.tr .c0).rejected = none
      ∧ s.session .c0 = some { sess with state := .loading } ∧ s.chosenCart { sess with state := .loading } = some y ∧ y.state = .opened)
    ∧ ((e.tr .c0).order = some { kind := .eject, task := .eject } ∧ TOrderKind.eject ≠ .thread ∧ TOrderKind.thread ≠ .eject) := by
  unfold NothingWaits; decide

theorem test_TransportReports_dropped_meets :
    let l := ordered (mount rest 1 .c0 3) .c0 .moving (.locate 0) .dropped
    let d := ordered (mount rest 1 .c0 3) .c0 .reading .read .dropped
    let r := ordered (mount rest 1 .c0 3) .c0 .moving (.locate 7) .rLocate
    ((l.chan .c0).drain = none ∧ (l.chan .c1).drain = none ∧ (l.tr .c0).pendingEject = false ∧ (l.tr .c0).rejected = none
      ∧ (l.tr .c0).order = some { kind := .locate 0, task := .dropped } ∧ (l.tr .c0).state = .moving ∧ (d.tr .c0).state = .reading ∧ (r.tr .c0).state = .moving
      ∧ ((ordered (mount rest 1 .c0 3) .c0 .empty .read .dropped).tr .c0).state = .empty)
    ∧ (d.tr .c0).order = some { kind := .read, task := .dropped } ∧ (r.tr .c0).order = some { kind := .locate 7, task := .rLocate } ∧ (rest.tr .c0).order = none := by decide

theorem test_DataBlockWritten_meets :
    let k := atTape streams
    let y := cart 1 (some (.transport .c0))
    let b := codeBank .b0 (bank .writing [7] 0) ⟨0, 0, false, 0⟩ 0 .empty
    (k.chan .c0).drain = none ∧ (k.chan .c1).drain = none ∧ (k.chan .c0).claim = none ∧ (k.tr .c0).state = .writing ∧ (k.tr .c0).order = some { kind := .write [], task := .sDataWrite .b0 }
      ∧ (k.tr .c0).pendingEject = false ∧ k.session .c0 = some sess ∧ sess.state = .streaming ∧ (k.chan .c0).buf = .held b
      ∧ k.cat.set? 1 = some { set 1 1 with state := .writing } ∧ k.cartIn .c0 = some y ∧ y.frames + b.cost ≤ (classOf y.label).warning ∧ Ans k := by decide

/-- A step with a new WRITE_BLOCK at T0, and one by which the cartridge's frames grow. -/
theorem test_DataBlockWritten_laws_meet :
    let coded := streams.setChan .c0 { streams.chan .c0 with bank0 := bank .coding [7] 0, coder := .coding .b0 .empty }
    (∃ t bytes, exec (.coderResult .c0) (st coded) = .next t ∧ (t.ctl.tr .c0).order = some { kind := .write bytes, task := .sDataWrite .b0 } ∧ (coded.tr .c0).order = none)
    ∧ ∃ t y z, exec (.blockWritten .c0) (st (atTape streams)) = .next t ∧ (atTape streams).store.recovery = none ∧ (atTape streams).cat.cart? (lab 1) = some y
      ∧ t.ctl.cat.cart? (lab 1) = some z ∧ y.frames < z.frames := by
  refine ⟨⟨_, _, rfl, rfl, rfl⟩, ⟨_, _, _, rfl, rfl, rfl, rfl, by decide⟩⟩

/-- Blocks 1 and 2 with interval 2, a full list, and a list that keeps the law. -/
theorem test_IndexPoints_meets :
    let r : SetRec := { set 1 1 with interval := 2, index := (List.range 64).map fun n => ⟨2 * n, n, false⟩ }
    (0 < 1 ∧ 1 % r.interval ≠ 0) ∧ (0 < 2 ∧ 2 % r.interval = 0 ∧ { r with index := [⟨0, 0, false⟩] }.index.length < 64) ∧ 64 ≤ r.index.length
      ∧ IndexLaw r 128 ∧ IndexLaw (SetRec.fresh 1 .a 0 0 0 0) 0 := by unfold IndexLaw; decide

/-- The CLOSED summary at the transport, auto-checkpoint off and the trigger MANUAL. -/
def closes : Ctl :=
  let k := ordered (inState (fun x => { x with state := .closing }) id) .c0 .writing (.write []) (.sSumWrite .closed)
  { k with store := { k.store with auto := false }
           verify := { k.verify with policies := ⟨{ Policy.default with trigger := .manual }, .default⟩ } }

theorem test_CloseCompletes_meets :
    let k := closes
    let y := cart 1 (some (.transport .c0))
    let r : SetRec := { set 1 1 with state := .writing }
    ((k.chan .c0).drain = none ∧ (k.chan .c1).drain = none ∧ (k.tr .c0).order = some { kind := .write [], task := .sSumWrite .closed } ∧ (k.tr .c0).pendingEject = false
      ∧ (k.tr .c0).rejected = none ∧ (k.tr .c0).state = .writing ∧ k.session .c0 = some { sess with state := .closing } ∧ sess.chosen = some y.label
      ∧ (k.chan .c0).mode = .write ∧ (k.chan .c0).claim = none ∧ (k.chan .c0).bank0.state ≠ .lent ∧ (k.chan .c0).bank1.state ≠ .lent ∧ (k.chan .c0).buf ≠ .lent)
    ∧ (k.cat.set? 1 = some r ∧ r.lastLabel = some y.label ∧ k.cartIn .c0 = some y ∧ (k.elem (.transport .c0)).occ = .full ∧ y.state = .opened ∧ y.early = false ∧ y.sets.length < 32
      ∧ y.frames < (classOf y.label).warning ∧ k.store.auto = false ∧ (k.verify.policies.get .a).trigger = .manual ∧ k.picker.queue = [] ∧ k.unloadRaised .c0 (some (.link .a)) none = false
      ∧ (k.link .a).online = true ∧ (k.setLink .a { k.link .a with online := false }).link .a ≠ k.link .a) := by
  refine ⟨by decide, by decide⟩

theorem test_EndOfMediaSpans_meets :
    let y : Cart := { cart 1 (some (.transport .c0)) with early := true }
    let k := (atTape streams).setChan .c0 { (atTape streams).chan .c0 with bank1 := { Bank.empty with state := .filling } }
    let e := k.setCat { k.cat with carts := [y] }
    ((e.chan .c0).drain = none ∧ (e.chan .c1).drain = none ∧ (e.chan .c0).claim = none ∧ (e.tr .c0).state = .writing ∧ (e.tr .c0).order = some { kind := .write [], task := .sDataWrite .b0 }
      ∧ (e.tr .c0).pendingEject = false ∧ (e.tr .c0).rejected = none ∧ e.session .c0 = some sess ∧ ((e.chan .c0).bank .b1).state ≠ .empty
      ∧ e.cat.set? 1 = some { set 1 1 with state := .writing } ∧ (set 1 1).extents.length < 4 ∧ e.cartIn .c0 = some y
      ∧ (e.tr .c0).pos = y.eod ∧ ((e.chan .c0).bank .b0).state = .writing)
    ∧ LawOfWriting e y (e.entryIn .c0) ∧ (k.cartIn .c0 = some (cart 1 (some (.transport .c0))) ∧ (cart 1 none).early = false)
    ∧ (∀ bytes task, (rest.tr .c0).order ≠ some { kind := .write bytes, task := task })
    ∧ (let d := ordered (mount rest 1 .c0 1) .c0 .writing (.write []) .dropped
       (d.tr .c0).state = .writing ∧ (d.tr .c0).order = some { kind := .write [], task := .dropped } ∧ (d.tr .c0).pendingEject = false ∧ Ans d) := by
  exact ⟨by decide, test_lawful (by decide), by decide, fun _ _ => nofun, by decide⟩

theorem test_TransportFaults_meets :
    let d := ordered (mount rest 1 .c0 3) .c0 .reading .read .dropped
    let j := rest.setTr .c0 { rest.tr .c0 with rejected := some .dropped }
    let f := rest.setTr .c0 { rest.tr .c0 with state := .faulted, resetting := true }
    ((rest.chan .c0).drain = none ∧ (rest.chan .c1).drain = none ∧ (rest.tr .c0).order = none ∧ (rest.tr .c0).rejected = none ∧ (rest.tr .c0).resetting = false)
    ∧ ((d.tr .c0).order = some { kind := .read, task := .dropped } ∧ (d.tr .c0).rejected = none ∧ (d.tr .c0).pendingEject = false ∧ (d.tr .c0).state = .reading
      ∧ d.cartIn .c0 = some (cart 1 (some (.transport .c0))) ∧ (cart 1 none).state ≠ .suspect ∧ d.picker.queue = [])
    ∧ (d.tr .c0).rejected = none ∧ (f.tr .c0).resetting = true
    ∧ ((j.tr .c0).rejected = some .dropped ∧ (j.tr .c1).rejected = none ∧ Ans ((j.setTr .c0 { j.tr .c0 with rejected := none }).faultFor .c0 .dropped true).finishDrains)
    ∧ NothingWaits d .c0 ∧ Ans d ∧ ∃ t, exec (.blockUnreadable .c0) (st d) = .next t := by
  refine ⟨by decide, by decide, by decide, by decide, by decide, by unfold NothingWaits; decide, by decide, _, rfl⟩

/-! ## Hypotheses of the statements: verification -/

/-- Link A's request to verify set 1, in a state. -/
def entry (s : VerifyState) : VerifyEntry :=
  { set := 1, origin := .request, requestedBy := some (.link .a), mode := .quick, pattern := .all, passes := 1, passesLeft := 1, state := s, pauseAsked := false, resume := none,
    bad := 0, badList := [], badMore := false, runRec := some 0, expected := 0, extent := 0, lastFault := none, done := 0, chan := none, waits := false }

def verifies (k : Ctl) (v : VerifyEntry) : Ctl := { k with verify := { k.verify with queue := [v] } }

/-- With the trigger ON_CLOSE and skip count 2 the first close counts, the second is queued, or SKIPPED where the queue is full; with auto-checkpoint on the checkpoint starts, or is
pending. -/
theorem test_CloseCompletes_offer_meets :
    let k (skips : Nat) (q : List VerifyEntry) (s : StoreState) : Ctl :=
      { closes with store := { closes.store with auto := true, state := s }
                    verify := { queue := q, policies := ⟨{ Policy.default with trigger := .onClose, skip := 2 }, .default⟩, skips := ⟨skips, 0⟩ } }
    let v : VerifyEntry := { entry .waiting with set := 2 }
    let ends (k : Ctl) : Option (Nat × Nat × Option VerifyStatus × StoreState × Bool) := match exec (.blockWritten .c0) (st k) with
      | .next t => some (t.ctl.verify.skips.get .a, t.ctl.verify.queue.length, (t.ctl.cat.set? 1).map (·.verify), t.ctl.store.state, t.ctl.store.pending)
      | _ => none
    ends (k 0 [] .clean) = some (1, 0, some .never, .saving, false) ∧ ends (k 1 [v] .saving) = some (0, 2, some .never, .saving, true)
    ∧ ends (k 1 (List.replicate 16 v) .clean) = some (0, 16, some .skipped, .saving, false) := by
  exact ⟨by decide +kernel, by decide +kernel, by decide +kernel⟩

theorem test_VerifyRequestsAnswered_meets :
    let k := withSet rest (set 1 1)
    let asked (k : Ctl) (p : Requester) (r : Req) := AtHead (st (asks k p r)) p (hd r) r
    let pol (n : Nat) : Req := .setVerifyPolicy 0 17 0 1 (.run 64 64) n
    (asked k .panel (.verifySet 1) ∧ k.cat.set? 1 = some (set 1 1) ∧ (set 1 1).state = .closed ∧ k.verify.queue = [])
    ∧ (asked k (.link .b) (.verifySet 1) ∧ (set 1 1).owner ≠ .b) ∧ (asked k .panel (.verifySet 2) ∧ k.cat.set? 2 = none)
    ∧ (asked (verifies k (entry .waiting)) (.link .a) (.cancelVerify 1) ∧ (verifies k (entry .waiting)).verifyOf 1 = some (entry .waiting)
      ∧ asked (verifies k (entry .waiting)) (.link .b) (.cancelVerify 1) ∧ k.verifyOf 1 = none ∧ asked k (.link .a) (.cancelVerify 1) ∧ Ans k ∧ Ans (verifies k (entry .waiting)))
    ∧ asked k (.link .a) (pol 1) ∧ (asked k (.link .a) (pol 2) ∧ 1 < 2) := by
  unfold AtHead; decide

/-- The entry runs on channel 0 and reads a block of set 1. -/
def verifyRuns (blocks : Nat) : Ctl :=
  let v : VerifyEntry := { entry .running with chan := some .c0 }
  let k := verifies (withSet (mount rest 1 .c0 1) { set 1 1 with extents := [⟨lab 1, 1, 0, blocks⟩] }) v
  ordered (k.setChan .c0 { k.chan .c0 with mode := .verify }) .c0 .reading .read .vRead

/-- The first block of set 1 as the Formatter wrote it. -/
def firstBlock : List Byte :=
  dataBlock (cart 1 none) (set 1 1) (codeBank .b0 { bank .coding [7, 8] 0 with ends := [2] } ⟨0, 0, false, 0⟩ 0 .empty)

theorem test_VerifyReads_meets :
    let k := verifies (withSet (mount rest 1 .c0 0) (set 1 1)) (entry .waiting)
    let y := cart 1 (some (.transport .c0))
    let r := verifyRuns 2
    rest.verify.queue = []
    ∧ (k.verify.queue = entry .waiting :: [] ∧ (entry .waiting).resume = none ∧ k.cat.set? 1 = some (set 1 1) ∧ (set 1 1).extents = ⟨lab 1, 1, 0, 2⟩ :: []
      ∧ k.cat.cart? (lab 1) = some y ∧ k.findLabel (lab 1) = some (.transport .c0) ∧ (k.elem (.transport .c0)).occ = .full ∧ k.labelAt (.transport .c0) = some (lab 1)
      ∧ k.usedBySession (lab 1) = false ∧ k.usedByRestore (lab 1) none = false ∧ k.usedByRecovery (lab 1) = false ∧ k.chanIdle .c0 = true ∧ (k.tr .c0).state = .mounted
      ∧ (k.tr .c0).order = none ∧ (k.tr .c0).pos = 0)
    ∧ (r.verifyOn .c0 = some { entry .running with chan := some .c0 } ∧ r.verifyExtent { entry .running with chan := some .c0 } = some ⟨lab 1, 1, 0, 2⟩
      ∧ (r.tr .c0).state = .reading ∧ (r.tr .c0).order = some { kind := .read, task := .vRead } ∧ (r.tr .c0).pendingEject = false ∧ (r.tr .c0).pos + 1 < 1 + 2 ∧ 0 + 1 < 0 + 2 ∧ r.cartIn .c0 = some y)
    ∧ 0 < 1 := by decide

/-- A GOOD block of the set and the pass with number 0 and with number 1, one with a byte of its payload changed, which is CRC_BAD, one of another set, and none. -/
theorem test_VerifyReads_block_meets :
    let good (n : Nat) : ReadResult → Bool
      | .good b => decide (b.hdr.kind = 2 ∧ b.hdr.set = 1 ∧ b.hdr.passTag = (cart 1 none).generation % 4 ∧ b.hdr.block = n)
      | _ => false
    good 0 (checkBlock firstBlock) = true
    ∧ good 1 (checkBlock (dataBlock (cart 1 none) (set 1 1) (codeBank .b0 { bank .coding [7, 8] 0 with ends := [2] } ⟨1, 1, false, 2⟩ 0 .empty))) = true
    ∧ (match checkBlock (firstBlock.set 50 0x55#8) with
        | .crcBad b => decide (b.hdr.kind = 2 ∧ b.hdr.set = 1 ∧ b.hdr.passTag = (cart 1 none).generation % 4 ∧ b.hdr.block = 0)
        | _ => false) = true
    ∧ (match checkBlock (dataBlock (cart 1 none) { set 1 1 with id := 2 } (codeBank .b0 { bank .coding [7, 8] 0 with ends := [2] } ⟨0, 0, false, 0⟩ 0 .empty)) with
        | .good b => decide (b.hdr.set ≠ 1)
        | _ => false) = true
    ∧ checkBlock [] = .malformed := by decide +kernel

/-- A pause is asked for while block 0 of two, or the only block, is being read: it is taken before the pass ends. -/
theorem test_VerifyReads_pause_meets :
    let v : VerifyEntry := { entry .running with chan := some .c0, pauseAsked := true }
    let k (n : Nat) := verifies (verifyRuns n) v
    let paused (n : Nat) : Option (List (VerifyState × Option Nat × Nat)) := match exec (.blockRead .c0 firstBlock) (st (k n)) with
      | .next t => some (t.ctl.verify.queue.map fun w => (w.state, w.resume, w.extent))
      | _ => none
    ((k 2).verifyOn .c0 = some v ∧ (k 2).verifyExtent v = some ⟨lab 1, 1, 0, 2⟩ ∧ (k 2).cartIn .c0 = some (cart 1 (some (.transport .c0))) ∧ ((k 2).tr .c0).state = .reading
      ∧ ((k 2).tr .c0).pos = 1 ∧ Ans (k 2) ∧ (k 2).picker.held = [] ∧ v.expected + 1 < 0 + 2 ∧ (k 1).verifyExtent v = some ⟨lab 1, 1, 0, 1⟩ ∧ v.expected + 1 = 0 + 1)
    ∧ paused 2 = some [(.paused, some 1, 0)] ∧ paused 1 = some [(.paused, some 1, 1)] := by decide +kernel

/-- The last block of the only extent is expected, in a last pass and in one before it; one that the entry has reached and one of a higher number; a pattern that selects block 0 and not
block 1. -/
theorem test_VerifyReads_end_meets :
    let k := verifyRuns 1
    let v : VerifyEntry := { entry .running with chan := some .c0 }
    (k.verifyOn .c0 = some v ∧ k.verifyExtent v = some ⟨lab 1, 1, 0, 1⟩ ∧ k.cat.set? 1 = some { set 1 1 with extents := [⟨lab 1, 1, 0, 1⟩] } ∧ v.expected + 1 = 0 + 1
      ∧ v.extent + 1 = 1 ∧ v.passesLeft ≤ 1 ∧ v.mode = .quick ∧ k.session .c0 = none ∧ (k.chan .c0).claim = none ∧ k.picker.running = none ∧ k.picker.held = []
      ∧ v.badList.length ≤ 8 ∧ v.pauseAsked = false ∧ Ans k ∧ k.labelIn .c0 = some (lab 1) ∧ (k.link .a).noticeCount < 16)
    ∧ (1 < { v with passesLeft := 2 }.passesLeft ∧ v.bad = 0)
    ∧ ((verifyRuns 3).verifyExtent v = some ⟨lab 1, 1, 0, 3⟩ ∧ v.expected < 1 ∧ 1 + 1 < 0 + 3 ∧ 0 < { v with expected := 1 }.expected ∧ 1 + 1 < 0 + 3)
    ∧ ((Pattern.everyNth 2).selects 0 = true ∧ (Pattern.everyNth 2).selects 1 = false ∧ { v with mode := .full }.mode = .full) := by decide


/-! ## Hypotheses of the statements: restore -/

/-- Link B's restore 1 of set 1, delivering on channel 0. -/
def delivers (f : RestoreCtx → RestoreCtx) : RestoreCtx :=
  f { RestoreCtx.fresh 1 .b 1 0 4 false 0 0 with state := .delivering, chan := some .c0 }

def restores (k : Ctl) (r : RestoreCtx) : Ctl :=
  { (k.setChan .c0 { k.chan .c0 with mode := .restore, bank0 := { Bank.empty with state := .lent }, bank1 := { Bank.empty with state := .lent } }) with
    restore := { k.restore with running := [r] } }

/-- A frame of one byte, of the record 0 that it ends. -/
def frame : OutData := { frame := { chan := .c0, eor := true, damaged := false, payload := [7] }, ended := some 0, within := none }

theorem test_RestoreRequestsAnswered_meets :
    let k := withSet (put rest 1 (.slot 0)) (set 1 1)
    let y := cart 1 (some (.slot 0))
    let r : Req := .restore 1 4 (.count 1) 1
    let busy (n : Nat) : Ctl :=
      { k.setTr .c0 { k.tr .c0 with state := .faulted } with trans := ⟨{ Transport.initial with state := .faulted }, { Transport.initial with state := .faulted }⟩
                                                             restore := { k.restore with queue := List.replicate n (delivers id) } }
    let asked (k : Ctl) (r : Req) := AtHead (st (asks k (.link .a) r)) (.link .a) (hd r) r
    let ctx := RestoreCtx.fresh k.restore.freeId .a 1 4 4 true 0 0
    (asked k r ∧ k.cat.set? 1 = some (set 1 1) ∧ (set 1 1).state = .closed ∧ (set 1 1).dictGen = k.dicts.gen 0 ∧ 4 < (set 1 1).records
      ∧ (set 1 1).startPlace 4 = some (0, 0) ∧ (set 1 1).extents[0]? = some ⟨lab 1, 1, 0, 2⟩ ∧ k.cat.cart? (lab 1) = some y ∧ y.loc ≠ none)
    ∧ ((busy 4).restoreChoice ctx = .waits ∧ 4 ≤ (busy 4).restore.queue.length ∧ (busy 3).restoreChoice ctx = .waits ∧ (busy 3).restore.queue.length < 4)
    ∧ (asked k (.restore 1 0 .all 2) ∧ 1 < 2) ∧ asked k (.restore 1 0 (.count 0) 0) ∧ asked k (.restore 1 0 (.other 2) 0)
    ∧ (asked rest r ∧ rest.cat.set? 1 = none) ∧ (asked k (.restore 1 5 .all 0) ∧ (set 1 1).records ≤ 5)
    ∧ ((withSet rest { set 1 1 with dictGen := 1 }).cat.set? 1 = some { set 1 1 with dictGen := 1 } ∧ 1 ≠ rest.dicts.gen 0)
    ∧ ((k.setElem (.slot 0) { k.elem (.slot 0) with reserved := some (.link .b) }).elem (.slot 0)).reserved = some (.link .b) := by
  unfold AtHead; decide

theorem test_RestoreRequestsAnswered_cancel_meets :
    let asked (k : Ctl) (l : Link) := AtHead (st (asks k (.link l) (.cancelRestore 1))) (.link l) (hd (.cancelRestore 1)) (.cancelRestore 1)
    let k : Ctl := { rest with restore := { rest.restore with queue := [{ delivers id with state := .queued, chan := none }] } }
    (asked rest .a ∧ rest.restore.queue ++ rest.restore.running = [])
    ∧ (asked k .b ∧ asked k .a ∧ k.restore.queue.find? (fun r => decide (r.id = 1)) = some { delivers id with state := .queued, chan := none }) := by
  unfold AtHead; decide

/-- R164: the next cartridge of a restore in SWITCHING stands in T1, whose channel is IDLE and which is FAULTED: the UNLOAD HOME raised fails at once with WRONG_STATE (R30). -/
theorem test_restore_faulted_other_transport :
    let k := restores (withSet (mount rest 1 .c1 3) (set 1 1)) (delivers fun r => { r with state := .switching })
    let f := k.setTr .c1 { k.tr .c1 with state := .faulted }
    (f.restoreSwitch .c0 16).picker.queue = [] ∧ ((f.restoreSwitch .c0 16).link .b).tx = some (.notice (.moveFailed 1 .wrongState) false)
    ∧ ((k.restoreSwitch .c0 16).picker.queue.map fun o => (o.kind, o.state)) = [(.unload, .ejectWait)] := by decide

/-- A restore with no frame ready, one that waits for credit, one whose frame is being sent with one credit left and with two, and one whose stall timer runs. -/
theorem test_RestoreFlow_meets :
    let two : RestoreCtx → RestoreCtx := fun r => { r with frames := [frame, frame], sending := true, credits := 2 }
    let sent := restores rest (delivers two)
    let tx := sent.setLink .b { sent.link .b with tx := some (.data frame.frame) }
    let stalled := delivers fun r => { r with frames := [frame], stall := true }
    ((restores rest (delivers id)).restoreOn .c0 = some (delivers id) ∧ (restores rest (delivers id)).restore? 1 = some (delivers id) ∧ (rest.link .b).online = true
      ∧ (delivers id).frames = [] ∧ (delivers id).stall = false)
    ∧ ((restores rest stalled).restoreOn .c0 = some stalled ∧ (restores rest stalled).restore? 1 = some stalled ∧ stalled.frames = frame :: [] ∧ stalled.sending = false ∧ 0 < 1)
    ∧ (tx.restoreOn .c0 = some (delivers two) ∧ (delivers two).frames = frame :: frame :: [] ∧ frame.frame.chan = .c0 ∧ (delivers two).sending = true
      ∧ (tx.link .b).tx = some (.data frame.frame) ∧ (tx.link .b).data.get .c0 = none)
    ∧ (stalled.stall = true ∧ stalled.state = .delivering ∧ stalled.chan = some .c0 ∧ (restores rest stalled).session .c0 = none
      ∧ ((restores rest stalled).chan .c0).claim = none ∧ ((restores rest stalled).tr .c0).order = none ∧ ((restores rest stalled).tr .c0).rejected = none
      ∧ rest.picker.running = none ∧ rest.picker.held = []) := by decide

theorem test_RestoreTakesChannel_meets :
    let r : RestoreCtx := { delivers id with state := .queued, chan := none, wasQueued := true }
    let k : Ctl := { withSet (mount rest 1 .c0 0) (set 1 1) with restore := { rest.restore with queue := [r] } }
    (rest.restore.queue = [] ∧ rest.restore.running = [])
    ∧ (k.restore.queue = [r] ∧ k.restore.running = [] ∧ k.extentLabel r.set r.extent = some (lab 1) ∧ k.findLabel (lab 1) = some (.transport .c0)
      ∧ k.labelIn .c0 = some (lab 1) ∧ k.usedBySession (lab 1) = false ∧ k.chanIdle .c0 = true ∧ (k.tr .c0).state = .mounted ∧ (k.tr .c0).order = none ∧ (k.tr .c0).pos = 0) := by
  decide

/-- The restore's cartridge in a slot with an IDLE channel, with a pausable verify, with a yielding session, and with none of these; in a transport with its channel IDLE, in a verify and
in its own session; away with the session that appends to it; and nowhere. -/
theorem test_RestoreTakesChannel_choice_meets :
    let r : RestoreCtx := { delivers id with state := .queued, chan := none }
    let k := withSet (put rest 1 (.slot 0)) (set 1 1)
    let down (k : Ctl) := k.setTr .c1 { k.tr .c1 with state := .faulted }
    let v := down (verifies (k.setChan .c0 { k.chan .c0 with mode := .verify }) { entry .running with chan := some .c0 })
    let other : Session := { sess with setId := 2, chosen := some (lab 2) }
    let y := down ((withSet k { set 2 2 with state := .writing }).setChan .c0 { k.chan .c0 with mode := .write, session := some other })
    let own := withSet (writes (mount rest 1 .c0 1) { sess with setId := 2 }) { set 2 1 with state := .writing }
    let b0 : Bool := k.sessionUses other (lab 1)
    (k.extentLabel r.set r.extent = some (lab 1) ∧ k.findLabel (lab 1) = some (.slot 0) ∧ k.session .c0 = none ∧ k.session .c1 = none ∧ k.chanIdle .c0 = true
      ∧ (k.tr .c0).state ≠ .faulted ∧ (k.elem (.transport .c0)).reserved = none)
    ∧ (v.chanIdle .c0 = false ∧ (v.tr .c1).state = .faulted ∧ (v.chan .c0).mode = .verify ∧ (v.chan .c0).claim = none
      ∧ v.verifyOn .c0 = some { entry .running with chan := some .c0 } ∧ (entry .running).pauseAsked = false)
    ∧ (y.session .c0 = some other ∧ (y.chan .c0).claim = none ∧ other.yield = true ∧ other.state = .streaming ∧ b0 = false)
    ∧ (let n := down (k.setTr .c0 { k.tr .c0 with state := .faulted })
       (n.tr .c0).state = .faulted ∧ (n.tr .c1).state = .faulted)
    ∧ (own.findLabel (lab 1) = some (.transport .c0) ∧ own.labelIn .c0 = some (lab 1) ∧ (own.tr .c0).state = .mounted
      ∧ own.session .c0 = some { sess with setId := 2 } ∧ own.sessionUses { sess with setId := 2 } (lab 1) = true ∧ own.session .c1 = none)
    ∧ (let a := withSet (writes (put rest 1 (.slot 0)) sess) (set 2 1)
       a.findLabel (lab 1) = some (.slot 0) ∧ a.sessionUses sess (lab 1) = true ∧ a.labelIn .c0 ≠ some (lab 1))
    ∧ (withSet rest (set 1 1)).findLabel (lab 1) = none ∧ (withSet rest (set 1 1)).extentLabel 1 0 = some (lab 1) := by decide

/-- The first block of set 1 with one record of two bytes, at the expander. -/
def firstTape : TapeBlock :=
  let x := codeBank .b0 { bank .coding [7, 8] 0 with ends := [2] } ⟨0, 0, false, 0⟩ 0 .empty
  { hdr := dataHeader (cart 1 none) (set 1 1) x, ends := x.ends, payload := x.payload, blockCrc := 0, nativeCrc := x.nativeCrc }

set_option maxRecDepth 8000 in
theorem test_ExpandedBlockDelivered_meets :
    let r := delivers fun r => { r with expected := 0 }
    let k := (restores rest r).setChan .c0 { (restores rest r).chan .c0 with expander := .expanding firstTape (some .empty), buf := .raw firstTape, bank0 := .empty }
    ((k.chan .c0).expander = .expanding firstTape (some .empty) ∧ (k.chan .c0).buf = .raw firstTape ∧ ((k.chan .c0).bank .b0).state = .empty ∧ Ans k ∧ (k.chan .c0).mode = .restore
      ∧ k.restoreOn .c0 = some r ∧ k.restore? 1 = some r ∧ k.session .c0 = none
      ∧ r.state = .delivering ∧ expandWith (some .empty) firstTape = { out := [7, 8], fault := none } ∧ crc [7, 8] = firstTape.nativeCrc ∧ r.credits = 0 ∧ r.sending = false
      ∧ r.runRec = none ∧ cutBlock .c0 [7, 8] r.last firstTape.recordEnds r.startOff r.nextRec ≠ [])
    ∧ (rest.chan .c0).expander = .idle
    ∧ (([2, 5] : List Nat).Pairwise (· < ·) ∧ (∀ e ∈ ([2, 5] : List Nat), 1 < e ∧ e ≤ ([1, 2, 3, 4, 5] : List Byte).length) ∧ 1 < ([1, 2, 3, 4, 5] : List Byte).length ∧ 3 ≤ 3) := by decide

/-! ## Hypotheses of the statements: the store, the resets and the ports' line -/

/-- The store runs a checkpoint whose flash operation is `op`. -/
def saves (op : FlashOp) : Ctl := { rest with store := { rest.store with state := .saving, op := op, snapshot := some rest.image, served := [.panel] } }

theorem test_CheckpointRuns_meets :
    let asked (k : Ctl) := AtHead (st (asks k .panel .checkpoint)) .panel (hd .checkpoint) .checkpoint
    let auto (n : Nat) := AtHead (st (asks rest (.link .a) (.setAutoCheckpoint n))) (.link .a) (hd (.setAutoCheckpoint n)) (.setAutoCheckpoint n)
    (asked rest ∧ rest.store.state ≠ .saving ∧ rest.store.op = .none ∧ rest.store.pending = false ∧ rest.store.reload ≠ .waiting ∧ rest.store.reload ≠ .again)
    ∧ (asked (saves .erase) ∧ (saves .erase).store.state = .saving ∧ (saves .erase).store.op = .erase)
    ∧ (saves .program).store.op = .program ∧ (saves .commit).store.op = .commit ∧ (saves .commit).store.pending = false ∧ (saves .commit).store.reload ≠ .waiting
    ∧ auto 1 ∧ (auto 2 ∧ 1 < 2) := by
  unfold AtHead; decide

theorem test_ResetsOfTheLibrary_meets :
    let asked (k : Ctl) (r : Req) := AtHead (st (asks k .panel r)) .panel (hd r) r
    let busy : Ctl := { rest with store := { rest.store with reload := .reading, op := .read } }
    (asked rest .libraryReset ∧ asked rest .reload ∧ rest.inv.key = .opened ∧ rest.store.reload = .none ∧ rest.restore.running = [] ∧ rest.store.op ≠ .read)
    ∧ (asked State.reset.ctl .reload ∧ State.reset.ctl.inv.key = .lock) ∧ (asked busy .reload ∧ asked busy .libraryReset ∧ busy.inv.key = .opened ∧ busy.store.reload ≠ .none)
    ∧ (busy.store.op = .read ∧ busy.store.pending = false ∧ busy.store.flash = none ∧ busy.picker.queue.length < 8)
    ∧ ({ busy.store with flash := some .defaults } : Store).flash = some .defaults
    ∧ (busy.restore.queue = [] ∧ busy.restore.running = [] ∧ busy.verify.queue = [] ∧ busy.store.recovery = none)
    ∧ (Ans rest ∧ Ans busy ∧ busy.session .c0 = none ∧ busy.session .c1 = none ∧ busy.climate.failSafe = false ∧ (rest.chan .c0).claim ≠ some .session
      ∧ streams.session .c0 = some sess ∧ rest.picker.held = [] ∧ rest.verify.queue = [] ∧ rest.store.recovery = none ∧ rest.picker.state ≠ .faulted
      ∧ { rest.picker with state := .faulted }.state = .faulted ∧ (State.reset.ctl.link .a).online = false) := by
  unfold AtHead; decide

/-- A good image is read while a verify entry reads its set: the entry is ended before the load. -/
theorem test_ResetsOfTheLibrary_begun_meets :
    let k := { verifyRuns 2 with store := { (verifyRuns 2).store with reload := .reading, op := .read, flash := some .defaults } }
    ∃ t, exec (.imageReadDone true) (st k) = .next t ∧ t.ctl.store.reload = .none ∧ t.ctl.verify.queue = [] ∧ (t.ctl.tr .c0).order.map (·.task) = some .dropped := by
  exact ⟨_, rfl, rfl, rfl, rfl⟩

/-- A RELOAD that finds a block being written, and an image read while one is: the session is ABORTING, and nothing is loaded yet. -/
theorem test_ResetsOfTheLibrary_session_meets :
    let k := atTape streams
    let r := { k with store := { k.store with reload := .reading, op := .read, flash := some .defaults } }
    (AtHead (st (asks k .panel .reload)) .panel (hd .reload) .reload ∧ Ans k ∧ Ans r ∧ r.store.op = .read ∧ r.store.pending = false)
    ∧ (∃ t, exec (.reload .panel) (st (asks k .panel .reload)) = .next t ∧ ((t.ctl.session .c0).map (·.state)) = some .aborting ∧ t.ctl.store.reload = .ending)
    ∧ ∃ t, exec (.imageReadDone true) (st r) = .next t ∧ ((t.ctl.session .c0).map (·.state)) = some .aborting ∧ t.ctl.store.reload = .again := by
  exact ⟨by unfold AtHead; decide, ⟨_, rfl, rfl, rfl⟩, _, rfl, rfl, rfl⟩

theorem test_RecoverAnswers_meets :
    let r : Req := .recoverCartridge (lab 1)
    let u (k : Ctl) (e : Option Element) := k.setCat { k.cat with carts := [{ cart 1 e with state := .unknown }] }
    let asked (k : Ctl) := AtHead (st (asks k (.link .a) r)) (.link .a) (hd r) r
    let s := put rest 1 (.slot 0)
    let m := u (mount rest 1 .c0 0) (some (.transport .c0))
    let down : Transport := { Transport.initial with state := .faulted }
    (asked rest ∧ rest.cat.cart? (lab 1) = none) ∧ (asked s ∧ s.cat.cart? (lab 1) = some (cart 1 (some (.slot 0))) ∧ (cart 1 none).state ≠ .unknown)
    ∧ (asked (u rest none) ∧ (u rest none).cat.cart? (lab 1) = some { cart 1 none with state := .unknown } ∧ (u rest none).store.recovery = none)
    ∧ (asked (u rest (some .gripper)) ∧ (u rest (some .gripper)).findLabel (lab 1) = none)
    ∧ (asked (u { s with trans := ⟨down, down⟩ } (some (.slot 0))) ∧ (u { s with trans := ⟨down, down⟩ } (some (.slot 0))).findLabel (lab 1) = some (.slot 0)
      ∧ (u { s with trans := ⟨down, down⟩ } (some (.slot 0))).usedByActivity (lab 1) = false ∧ ({ s with trans := ⟨down, down⟩ }.tr .c0).state = .faulted)
    ∧ (asked m ∧ m.findLabel (lab 1) = some (.transport .c0) ∧ m.usedByActivity (lab 1) = false ∧ m.reservedByOther (some (.link .a)) (.transport .c0) = false
      ∧ m.doorBusy (.transport .c0) = false ∧ m.labelIn .c0 = some (lab 1) ∧ m.transportOf (lab 1) = some .c0 ∧ m.chanIdle .c0 = true ∧ (m.tr .c0).state = .mounted
      ∧ (m.tr .c0).order = none ∧ (m.tr .c0).pos = 0) := by
  unfold AtHead; decide

theorem test_RecoverAnswers_refused_meets :
    let r : Req := .recoverCartridge (lab 1)
    let u (k : Ctl) := k.setCat { k.cat with carts := [{ cart 1 (some (.slot 0)) with state := .unknown }] }
    let asked (k : Ctl) := AtHead (st (asks k (.link .a) r)) (.link .a) (hd r) r
    let s := u (put rest 1 (.slot 0))
    let w := s.setRestore { s.restore with running := [delivers id] }
    (asked { s with store := { s.store with recovery := some ⟨lab 2, .panel, .c1, 0, 1, [], [], [], 0, 0, 0, 1, 0, 0, 0⟩ } })
    ∧ (asked (s.setElem (.slot 0) { s.elem (.slot 0) with reserved := some .panel })
      ∧ (s.setElem (.slot 0) { s.elem (.slot 0) with reserved := some .panel }).reservedByOther (some (.link .a)) (.slot 0) = true)
    ∧ (asked (s.setDoor .l { Door.initial with state := .asking }) ∧ (s.setDoor .l { Door.initial with state := .asking }).doorBusy (.slot 0) = true)
    ∧ (asked (withSet w (set 1 1)) ∧ (withSet w (set 1 1)).usedByActivity (lab 1) = true) := by
  unfold AtHead; decide

theorem test_LinkResets_meets :
    let asked (n : Nat) := AtHead (st (asks rest (.link .a) (.linkReset n))) (.link .a) (hd (.linkReset n)) (.linkReset n)
    (asked 0 ∧ linkOf 0 = some .a) ∧ (asked 1 ∧ linkOf 1 = some Link.a.other) ∧ (asked 2 ∧ 1 < 2)
    ∧ ((rest.door .l).state ≠ .asking ∧ (rest.door .r).state ≠ .asking ∧ rest.picker.queue ++ rest.picker.held = [] ∧ rest.session .c0 = none ∧ rest.session .c1 = none
      ∧ rest.restore.queue = [] ∧ rest.restore.running = [] ∧ rest.store.recovery = none ∧ rest.verify.queue = [])
    ∧ (rest.link .a).offlineTimer = false ∧ ({ rest.link .a with offlineTimer := true } : LinkPort).offlineTimer = true := by
  unfold AtHead; decide

theorem test_LockGainedAndLost_meets :
    (rest.link .a).online = true ∧ (State.reset.ctl.link .a).online = false ∧ (State.reset.ctl.door .l).state ≠ .asking ∧ (State.reset.ctl.door .r).state ≠ .asking
    ∧ State.reset.ctl.session .c0 = none ∧ State.reset.ctl.session .c1 = none ∧ (rest.link .a).tx = none
    ∧ ((rest.setLink .a { rest.link .a with tx := some (.notice .pickerIdle false) }).link .a).tx = some (.notice .pickerIdle false)
    ∧ ((rest.setLink .a { rest.link .a with tx := some (.credit .c0 16) }).link .a).tx = some (.credit .c0 16)
    ∧ ((rest.setLink .a { rest.link .a with tx := some (.response ⟨1, .ok, .none, false⟩) }).link .a).tx = some (.response ⟨1, .ok, .none, false⟩)
    ∧ streams.session .c0 = some sess := by decide

theorem test_PowerUpResets_meets :
    State.reset.ctl.store.flash = none ∧ ({ rest.store with flash := some .defaults } : Store).flash = some .defaults := by decide

/-- A command that sets nothing, one that leaves the picker as it is, one that leaves the elements: each answers a next state. -/
theorem test_standing_meets :
    setsStanding (.creditGrant .c0) = false ∧ movesPicker (.creditGrant .c0) = false ∧ leavesElements (.creditGrant .c0) = true
    ∧ ∃ t, exec (.creditGrant .c0) (st streams) = .next t := ⟨rfl, rfl, rfl, _, rfl⟩

/-- The law of the library's elements holds where one cartridge stands in the gripper; the PUT that sets it down answers a next state there. -/
theorem test_MotionAndElementsStand_law_meets :
    let k := running (put rest 1 .gripper) mover (.put (.slot 2)) (.putting (.slot 2))
    ElementLaw k ∧ ∃ t, exec .putDone (st k) = .next t := by
  intro k
  have all : ∀ f : Element → Bool, Element.all.all f = true → ∀ e, f e = true := fun f h e => List.all_eq_true.1 h e (test_element_listed e)
  have only : ∀ e, (decide (e = .gripper) || (k.labelAt e).isNone) = true := all _ (by decide)
  have held : ∀ e l, k.labelAt e = some l → e = .gripper := fun e l h => by simpa [h] using only e
  refine ⟨⟨fun e f l hne _ _ he hf => hne ((held e l he).trans (held f l hf).symm), fun e h => ?_, fun e h => ?_⟩, _, rfl⟩
  · have := all (fun e => decide ((k.elem e).occ = .empty → (k.elem e).entry = none)) (by decide) e
    simpa [h] using this
  · have := all (fun e => decide ((k.elem e).occ = .full → (k.elem e).entry ≠ none)) (by decide) e
    simpa [h] using this

/-! ## States for the later clauses -/

/-- What a command leaves of the controller, as `f` reads it. -/
def after {α : Type} (k : Ctl) (i : Instr) (f : Ctl → α) : Option α :=
  match exec i (st k) with
  | .next t => some (f t.ctl)
  | _ => none

/-- A DATA_IN frame of no running restore has been sent; what goes next is the frame that was cut off, then that of the other channel, then that of the same one. -/
theorem test_FramesSentAndRead_turns_meets :
    let d (c : Chan) : DataIn := { chan := c, eor := false, damaged := false, payload := [7] }
    let k (cut : Option DataIn) (c1 : Option DataIn) := rest.setLink .a
      { rest.link .a with tx := some (.data (d .c0)), lastData := .c0, cut := cut, data := ⟨some (d .c0), c1⟩ }
    let next (k : Ctl) := after k (.frameSent .a) fun t => ((t.link .a).tx, (t.link .a).lastData)
    (Ans (k none none) ∧ rest.restoreOn .c0 = none ∧ ((k none none).link .a).tx = some (.data (d .c0)))
    ∧ next (k (some (d .c1)) none) = some (some (.data (d .c1)), .c1) ∧ next (k none (some (d .c1))) = some (some (.data (d .c1)), .c1)
    ∧ next (k none none) = some (some (.data (d .c0)), .c0) := by decide

/-- The plain audit of M, which holds nothing and cartridge 1, reads nothing, that cartridge, another one and an unreadable label. -/
theorem test_MailSlotEvents_audit_meets :
    let a (k : Ctl) := running k (auditOrder 1 (.element .mail) .plain) (.read .mail) (.scanning [.mail])
    let k := a (put rest 1 .mail)
    (Answered k ∧ LeavesQuietly k ∧ NobodyWaits k none)
    ∧ (k.picker.running = some { auditOrder 1 (.element .mail) .plain with state := .running } ∧ k.labelAt .mail = some (lab 1) ∧ k.standsElsewhere (lab 1) .mail = false
      ∧ k.standsElsewhere (lab 2) .mail = false ∧ k.standsElsewhere (0x3F#8 :: Element.mail.name) .mail = false ∧ (a rest).labelAt .mail = none)
    ∧ readLeaves k .mail .noCartridge = some (.empty, none, none) ∧ readLeaves k .mail (.label (lab 1)) = some (.full, some (lab 1), none)
    ∧ readLeaves k .mail .unreadable = some (.full, some (lab 1), none) ∧ readLeaves k .mail (.label (lab 2)) = some (.full, some (lab 2), none)
    ∧ readLeaves (a rest) .mail .unreadable = some (.full, some (0x3F#8 :: Element.mail.name), none)
    ∧ readLeaves (importRead rest) .mail .unreadable = some (.full, some (0x3F#8 :: Element.mail.name), some (.noSlot (some (0x3F#8 :: Element.mail.name)) .mail)) := by
  exact ⟨⟨test_answered (by decide), test_quiet (by decide), test_alone (by decide) none⟩, by decide, by decide +kernel, by decide +kernel, by decide +kernel, by decide +kernel,
    by decide +kernel, by decide +kernel⟩

/-- M is read alone; SCAN_ALL starts at S01, at S13 behind the left door, at M behind both; an import's move starts for S05, to ANY and in place of its FETCH where S05 is FULL;
its label unreadable is no exported label (R22). -/
theorem test_OrdersStart_scans_meets :
    let scan : Order := { Order.powerUpScan with id := 1, role := .reloadScan }
    let behind (ms : List Mag) : Ctl := ms.foldl (fun k m => k.setDoor m { Door.initial with state := .opened }) (queued rest scan)
    let im (d : OrderDest) : Order := mailMove 1 (some (.link .a)) .mail d none (.importMove (some 4))
    let m := put rest 1 .mail
    let starts (k : Ctl) := after k .orderStart fun t => (t.picker.cmd, t.picker.phase)
    let full := put m 2 (.slot 4)
    (scan.kind = .scanAll ∧ (behind []).oldestWaiting = some scan ∧ (behind []).picker.state = .idle ∧ (behind [.l, .r]).inv.mail.forced = false)
    ∧ (starts (behind [])).map (·.1) = some (some (.read (.slot 0))) ∧ (starts (behind [.l])).map (·.1) = some (some (.read (.slot 12)))
    ∧ starts (behind [.l, .r]) = some (some (.read .mail), .scanning [.mail])
    ∧ starts (queued m (auditOrder 1 (.element .mail) .plain)) = some (some (.read .mail), .scanning [.mail])
    ∧ (m.startChecks (im (.element (.slot 4))) = .goes .mail (.slot 4) ∧ m.startChecks (im .any) = .goes .mail (.slot 0)
      ∧ rest.startChecks (im .any) = .fails .noCartridge
      ∧ (el m .mail fun r => { r with reserved := some (.link .b) }).startChecks (im .any) = .fails .reserved)
    ∧ (full.startChecks (im (.element (.slot 4))) = .importStays ∧ (queued full (im (.element (.slot 4)))).oldestWaiting = some (im (.element (.slot 4))))
    ∧ starts (queued full (im (.element (.slot 4)))) = some (some (.read .mail), .importRead) := by decide +kernel

/-- A label that stands in S04 too; the first label of a cartridge in T0, whose tab has been reported; an import's cartridge with an unreadable label and with a duplicate one. -/
theorem test_FetchMovesEntry_labels_meets :
    let k := running (put (put rest 1 (.slot 0)) 2 (.slot 3)) mover (.fetch (.slot 0)) (.fetching (.slot 2))
    let un := { mover with kind := .unload, source := .element (.transport .c0) }
    let nameless := el ((mount rest 1 .c0 0).setTr .c0 { (mount rest 1 .c0 0).tr .c0 with tabSeen := some .set }) (.transport .c0) fun r =>
      { r with entry := r.entry.map fun e => { e with label := none } }
    let u := running nameless un (.fetch (.transport .c0)) (.fetching (.slot 2))
    let im := mailMove 1 (some (.link .a)) .mail (.element (.slot 4)) none (.importMove (some 4))
    let i := running ((put rest 2 (.slot 3)).setElem .mail { occ := .full, entry := none, reserved := none }) im (.fetch .mail) (.fetching (.slot 4))
    let grips (k : Ctl) (r : LabelRead) := after k (.fetchDone r) fun t => (t.labelAt .gripper, (t.elem .gripper).entry.map (·.tab), (t.link .a).tx)
    let dup (e : Element) : Option TxFrame := some (.notice (.duplicateLabel (lab 2) e) false)
    let prov (e : Element) : Label := 0x3F#8 :: e.name
    (k.labelAt (.slot 3) = some (lab 2) ∧ readableLabel (lab 2) = true ∧ k.standsElsewhere (prov (.slot 0)) (.slot 0) = false ∧ Ans k ∧ Ans u ∧ Ans i)
    ∧ grips k (.label (lab 2)) = some (some (prov (.slot 0)), some .unknown, dup (.slot 0))
    ∧ grips u (.label (lab 1)) = some (some (lab 1), some .set, none)
    ∧ grips u .unreadable = some (some (prov (.transport .c0)), some .set, none)
    ∧ grips (put u 2 (.slot 3)) (.label (lab 2)) = some (some (prov (.transport .c0)), some .set, dup (.transport .c0))
    ∧ grips i .unreadable = some (some (prov .mail), some .unknown, none)
    ∧ grips i (.label (lab 2)) = some (some (prov .mail), some .unknown, dup .mail) := by
  exact ⟨by decide, by decide +kernel, by decide +kernel, by decide +kernel, by decide +kernel, by decide +kernel, by decide +kernel⟩

/-- The PUT of an import's and of an export's move, the put-back of a cartridge that a MOVE and an UNLOAD did not want, and that of HOME. -/
theorem test_PutDoneSetsDown_ends_meets :
    let im := mailMove 1 (some (.link .a)) .mail (.element (.slot 4)) none (.importMove (some 4))
    let ex := mailMove 1 (some (.link .a)) (.slot 0) (.element .mail) none (.exportMove (lab 1))
    let g := put rest 1 .gripper
    let i := running (el g (.slot 4) fun r => { r with reserved := some (.link .a) }) im (.put (.slot 4)) (.putting (.slot 4))
    let x := running g ex (.put .mail) (.putting .mail)
    let un := { mover with kind := .unload, source := .element (.transport .c0) }
    let b := running g mover (.put (.slot 0)) .puttingBack
    let t := running g un (.put (.transport .c0)) .puttingBack
    let h : Ctl := { g with picker := { Picker.initial with cmd := some (.put (.slot 1)), phase := .homePutBack (.slot 1) } }
    let ended (k : Ctl) := after k .putDone fun t => (t.picker.queue.length, t.picker.state, (t.link .a).tx)
    (LeavesQuietly i ∧ NobodyWaits i none ∧ LeavesQuietly x ∧ NobodyWaits x none ∧ LeavesQuietly b ∧ LeavesQuietly t)
    ∧ (im.kind = .move ∧ ex.kind = .move ∧ im.unloadAfter = false ∧ x.inv.mail.state ≠ .openImport ∧ mover.source = .element (.slot 0) ∧ h.picker.auditOffers = []
      ∧ Ans i ∧ Ans x ∧ Ans b ∧ Ans t ∧ Ans h ∧ g.labelAt .gripper = some (lab 1) ∧ g.standsElsewhere (lab 1) .gripper = false)
    ∧ ended i = some (0, .idle, some (.notice (.moveDone 1) false)) ∧ after i .putDone (fun t => (t.elem (.slot 4)).reserved) = some none
    ∧ after x .putDone (fun t => (t.inv.mail.state, t.inv.mail.label, t.inv.mail.timer)) = some (.openExport, some (lab 1), true)
    ∧ ended b = some (0, .idle, some (.notice (.moveFailed 1 .mismatch) false)) ∧ after t .putDone (fun t => (t.tr .c0).state) = some .ejected
    ∧ after h .putDone (fun t => (t.labelAt (.slot 1), (t.elem .gripper).occ, t.picker.state)) = some (some (lab 1), .empty, .idle) := by
  exact ⟨⟨test_quiet (by decide), test_alone (by decide) none, test_quiet (by decide), test_alone (by decide) none, test_quiet (by decide), test_quiet (by decide)⟩,
    by decide, by decide +kernel, by decide +kernel, by decide +kernel, by decide +kernel, by decide +kernel, by decide +kernel⟩

/-- A report that does not fit the command outstanding, and what a fault of a PUT, of a put-back, of a HOME's put-back and of SCAN_ALL's putting away keeps. -/
theorem test_PickerFaults_kept_meets :
    let g := put rest 1 .gripper
    let p (ph : Phase) := running g mover (.put (.slot 2)) ph
    let h : Ctl := { g with picker := { Picker.initial with cmd := some (.put (.slot 1)), phase := .homePutBack (.slot 1) } }
    let scan := running g { Order.powerUpScan with id := 1 } (.put (.slot 2)) (.scanGripPut (.slot 2))
    let kept (k : Ctl) (i : Instr) := after k i fun t => (t.picker.lastFault, t.picker.failed)
    (Ans (p .puttingBack) ∧ Ans h ∧ Ans scan ∧ h.picker.running = none ∧ (p (.putting (.slot 2))).picker.cmd ≠ none)
    ∧ kept (p (.putting (.slot 2))) .fetchEmpty = some (some .pathBlocked, some { source := some (.slot 0), putDest := some (.slot 2), requester := some (.link .a) })
    ∧ kept (p .puttingBack) .pathBlocked = some (some .pathBlocked, some { source := some (.slot 0), putDest := some (.slot 0), requester := some (.link .a) })
    ∧ kept h .commandTimerExpiry = some (some .timeout, some { source := none, putDest := some (.slot 1), requester := none })
    ∧ kept scan (.readDone .noCartridge) = some (some .pathBlocked, some { source := none, putDest := some (.slot 2), requester := none }) := by decide +kernel

/-- The hold ends with SET_WATCH, and the fail-safe hold with the last watch; the third failure brings SENSOR_FAULT(3) and HOLD; a crossing of a HOLD watch brings CLIMATE and HOLD. -/
theorem test_climate_tells_meet :
    let held : Ctl := { rest with climate := { rest.climate with
      watches := rest.climate.watches.set .w1 { enabled := true, quantity := .temperature, threshold := 30, direction := .above, action := .hold },
      results := ⟨{ valid := true, crossed := true }, { valid := false, crossed := false }⟩, hold := true } }
    let off : Ctl := { rest with climate := { rest.climate with
      watches := ⟨{ rest.climate.watches.w1 with enabled := true }, { rest.climate.watches.w2 with enabled := false }⟩, failures := 3, failSafe := true, hold := true } }
    let reads : Ctl := { held with climate := { held.climate with reading := some .w1, failures := 2, hold := false, results := rest.climate.results } }
    let told (k : Ctl) (i : Instr) := after k i fun t => ((t.link .b).tx, (t.link .b).notices)
    AtHead (st (asks off .panel (.setWatch 0 1 0 30 0 0))) .panel (hd (.setWatch 0 1 0 30 0 0)) (.setWatch 0 1 0 30 0 0)
    ∧ told (asks held .panel (.setWatch 0 1 0 30 0 0)) (.setWatch .panel 0 1 0 30 0 0) = some (some (.notice (.hold false .cleared) false), [])
    ∧ told (asks off .panel (.setWatch 0 1 0 30 0 0)) (.setWatch .panel 0 1 0 30 0 0) = some (some (.notice (.sensorFault 0) false), [.hold false .cleared])
    ∧ told reads .sensorNoAnswer = some (some (.notice (.sensorFault 3) false), [.hold true .sensor])
    ∧ told reads (.sensorAnswer (.value 31)) = some (some (.notice (.climate .w1 .temperature 31) false), [.hold true (.watch .w1)]) := by
  unfold AtHead; decide +kernel
/-- A named cartridge MOUNTED in T0, at position 0 and away from it, OPEN and BLANK; one in S01; channel ANY with the target in T1, with T0 FAULTED, and with none that passes; a verify
with an order outstanding on the channel. -/
theorem test_OpenSetAnswers_named_meets :
    let l := TargetArg.label (lab 1)
    let any : Req := .openSet 2 l 0 0 30 100 0
    let opened (k : Ctl) (r : Req) (i : Instr) (c : Chan) := after (asks k (.link .a) r) i fun t => ((t.session c).map (·.state), (t.tr c).order.map (·.task))
    let at' (k : Ctl) (c : Chan) := opened k (openReq l) (.openSet (.link .a) 0 l 0 0 30 100 0) c
    let atAny (k : Ctl) (c : Chan) := opened k any (.openSet (.link .a) 2 l 0 0 30 100 0) c
    let m (c : Chan) (pos : Nat) := mount rest 1 c pos
    let blank := (m .c0 0).setCat { rest.cat with carts := [{ cart 1 (some (.transport .c0)) with state := .blank }] }
    let s := put rest 1 (.slot 0)
    let faulted (k : Ctl) (c : Chan) := k.setTr c { k.tr c with state := .faulted }
    let v := ordered (verifies ((put rest 1 (.slot 0)).setChan .c0 { rest.chan .c0 with mode := .verify }) { entry .running with chan := some .c0 }) .c0 .reading .read .vRead
    (AtHead (st (asks s (.link .a) any)) (.link .a) (hd any) any ∧ chanArg 2 = some none ∧ targetOf l = some (some (lab 1)) ∧ (m .c0 0).usedByActivity (lab 1) = false
      ∧ (m .c0 0).chanIdle .c0 = true ∧ v.verifyTakable .c0 = true ∧ (v.tr .c0).activityOrder = true)
    ∧ at' (m .c0 0) .c0 = some (some .appendingCheck, some .sVolRead) ∧ at' (m .c0 3) .c0 = some (some .appendingCheck, some .sVolLocate)
    ∧ at' blank .c0 = some (some .appendingCheck, some .sVolWriteLocate) ∧ at' s .c0 = some (some .loading, none)
    ∧ atAny s .c0 = some (some .loading, none) ∧ atAny (faulted s .c0) .c1 = some (some .loading, none) ∧ atAny (m .c1 0) .c1 = some (some .appendingCheck, some .sVolRead)
    ∧ atAny (faulted (faulted s .c0) .c1) .c0 = some (none, none)
    ∧ at' v .c0 = some (some .opening, some .vRead) ∧ after (asks v (.link .a) (openReq l)) (.openSet (.link .a) 0 l 0 0 30 100 0) (fun t => t.verify.queue.map (·.pauseAsked)) = some [true] := by
  exact ⟨by unfold AtHead; decide, by decide +kernel, by decide +kernel, by decide +kernel, by decide +kernel, by decide +kernel, by decide +kernel, by decide +kernel, by decide +kernel,
    by decide +kernel, by decide +kernel⟩

/-- Nothing of the session is in hand: its set is OPENING, or WRITING with its cartridge MOUNTED at the end-of-data, or without a cartridge and auto-checkpoint off. -/
def emptyHanded (r : SetState) (k : Ctl) : Ctl :=
  { (withSet k { set 1 1 with state := r }).setChan .c0 { k.chan .c0 with mode := .write, session := some sess, credits := 1 } with store := { k.store with auto := false } }

theorem test_emptyHanded {k : Ctl} {x : Session}
    (h : Ans k ∧ (k.chan .c0).mode = .write ∧ x.state ≠ .suspended ∧ (k.tr .c0).order = none ∧ (k.chan .c0).bank0.state ≠ .writing ∧ (k.chan .c0).bank0.state ≠ .lent
      ∧ (k.chan .c0).bank1.state ≠ .writing ∧ (k.chan .c0).bank1.state ≠ .lent ∧ (k.chan .c0).buf = .free ∧ (k.chan .c0).claim = none ∧ k.picker.held = [] ∧ k.restoreOn .c0 = none) :
    NothingInHand k .c0 x := by
  obtain ⟨h, h1, h2, h3, h4, h5, h6, h7, h8, h9, h10, h11⟩ := h
  exact ⟨h1, h2, h3, fun i => by cases i; exacts [⟨h4, h5⟩, ⟨h6, h7⟩], .inl h8, h9, h10, h11, test_answered h⟩

/-- ABORT_SET, LINK_DAMAGE and OVERRUN with no block in hand: an OPENING set, and a WRITING one with a summary to write and without. -/
theorem test_aborts_at_once_meet :
    let m := mount rest 1 .c0 1
    let k := emptyHanded .writing m
    let ask (k : Ctl) := asks k (.link .a) (.abortSet 1)
    let seen (t : Ctl) := ((t.session .c0).map (·.state), (t.cat.set? 1).map (·.state), (t.tr .c0).order.map (·.task))
    let aborts (k : Ctl) := after (ask k) (.abortSet (.link .a) 1) seen
    (NothingInHand k .c0 sess ∧ NothingInHand (emptyHanded .opening m) .c0 sess ∧ NothingInHand (emptyHanded .writing rest) .c0 sess)
    ∧ AtHead (st (ask k)) (.link .a) (hd (.abortSet 1)) (.abortSet 1) ∧ LawOfWriting k (cart 1 (some (.transport .c0))) (k.entryIn .c0)
    ∧ (k.sessionOf 1 = some (.c0, sess) ∧ sess.owner = .a ∧ (k.link .a).online = true ∧ 0 < (k.chan .c0).credits ∧ k.session .c1 = none ∧ sess.contWritten = false
      ∧ (set 1 1).lastLabel = some (lab 1) ∧ (emptyHanded .writing rest).labelIn .c0 = none ∧ sess.chosen = some (lab 1) ∧ k.picker.queue = [])
    ∧ aborts (emptyHanded .opening m) = some (none, none, some .eject) ∧ aborts k = some (some .aborting, some .writing, some (.sSumWrite .truncated))
    ∧ aborts (emptyHanded .writing rest) = some (none, some .truncated, none)
    ∧ after k (.damagedFrame (.link .a)) seen = some (some .aborting, some .writing, some (.sSumWrite .truncated))
    ∧ after (k.setChan .c0 { k.chan .c0 with credits := 0 }) (.dataOut .a 0 0 [7]) seen = some (some .aborting, some .writing, some (.sSumWrite .truncated)) := by
  exact ⟨⟨test_emptyHanded (by decide), test_emptyHanded (by decide), test_emptyHanded (by decide)⟩, by unfold AtHead; decide, test_lawful (by decide), by decide, by decide +kernel, by decide +kernel,
    by decide +kernel, by decide +kernel, by decide +kernel⟩

/-- A block that the cartridge has no more frames for: a span at the end-of-data and away from it, and with 4 extents already; the cartridge's frames as given. -/
def outgrows (frames extents pos : Nat) : Ctl :=
  let k := mount rest 1 .c0 pos
  let k := withSet (k.setCat { k.cat with carts := [{ cart 1 (some (.transport .c0)) with frames := frames }] })
    { set 1 1 with state := .writing, extents := List.replicate extents { label := lab 1, firstPos := 1, firstBlock := 0, count := 2 } }
  k.setChan .c0 { k.chan .c0 with mode := .write, session := some sess, bank0 := bank .coding [7] 0, coder := .coding .b0 .empty }

theorem test_BanksGrantsAndSyncs_span_meets :
    let last := (classOf (lab 1)).capacity - 2
    let k := outgrows last 1 1
    let seen (t : Ctl) := ((t.session .c0).map fun x => (x.state, x.abort.map (·.reason)), (t.chan .c0).bank0.state, (t.tr .c0).order.map (·.task))
    let y : Cart := { cart 1 (some (.transport .c0)) with frames := last }
    let b := codeBank .b0 (bank .coding [7] 0) ⟨0, 0, false, 0⟩ 0 .empty
    (LawOfWriting k y (k.entryIn .c0) ∧ Answered k)
    ∧ (k.cartIn .c0 = some y ∧ ¬y.frames + b.cost ≤ last ∧ (k.tr .c0).state = .mounted ∧ (k.tr .c0).order = none)
    ∧ after k (.coderResult .c0) seen = some (some (.spanning, none), .retained, some (.sSumWrite .continues))
    ∧ after (outgrows last 1 4) (.coderResult .c0) seen = some (some (.spanning, none), .retained, some (.sSumLocate .continues))
    ∧ after (outgrows last 4 1) (.coderResult .c0) seen = some (some (.aborting, some .setTooLong), .empty, some (.sSumWrite .truncated)) := by
  exact ⟨⟨test_lawful (by decide), test_answered (by decide)⟩, by decide +kernel, by decide +kernel, by decide +kernel, by decide +kernel⟩

/-- A span of four extents that outgrows the cartridge aborts with nothing else in hand: the bank's block is RETAINED in the coded buffer. -/
theorem test_BanksGrantsAndSyncs_too_long_meets :
    let k := outgrows ((classOf (lab 1)).capacity - 2) 4 1
    let b := codeBank .b0 (bank .coding [7] 0) ⟨0, 0, false, 0⟩ 0 .empty
    let spans : Session := { sess with state := .spanning }
    let k2 := (k.setChan .c0 { (k.chan .c0) with bank0 := bank .retained [7] 0, coder := .idle, buf := .held b, session := some spans }).grant .c0
    NothingInHand k2 .c0 spans := by
  refine ⟨by decide, by decide, by decide, fun i => by cases i <;> decide, .inr ⟨_, rfl⟩, by decide, by decide, by decide, test_answered (by decide)⟩

/-- THREADED and EJECTED with no order outstanding, in MOUNTED, are discarded with the other reports. -/
theorem test_TransportReports_stray_meets :
    let k := mount rest 1 .c0 2
    ((k.tr .c0).order = none ∧ (k.tr .c0).state = .mounted ∧ Ans k)
    ∧ after k (.threaded .c0 .set) (fun t => (t.tr .c0, t.elem (.transport .c0))) = some (k.tr .c0, k.elem (.transport .c0))
    ∧ after k (.ejected .c0) (fun t => (t.tr .c0).state) = some .mounted ∧ after k (.positioned .c0) (fun t => (t.tr .c0).pos) = some 2 := by decide

/-- The written block takes the frames past the early-warning point, in STREAMING, CLOSING, SUSPENDING and SPANNING. -/
theorem test_DataBlockWritten_warned_meets :
    let y : Cart := { cart 1 (some (.transport .c0)) with frames := (classOf (lab 1)).warning }
    let k (stt : SessionState) : Ctl :=
      let k := inState (fun x => { x with state := stt }) atTape
      k.setCat { k.cat with carts := [y] }
    let seen (t : Ctl) := ((t.session .c0).map (·.state), (t.cat.cart? (lab 1)).map (·.early), (t.link .a).tx)
    let warn : Option TxFrame := some (.notice (.earlyWarning 1 (lab 1)) false)
    (Ans (k .closing) ∧ (k .closing).cartIn .c0 = some y ∧ (k .closing).session .c0 = some { sess with state := .closing })
    ∧ after (k .streaming) (.blockWritten .c0) (fun t => (t.cat.cart? (lab 1)).map (·.early)) = some (some true)
    ∧ after (k .closing) (.blockWritten .c0) seen = some (some .closing, some true, warn) ∧ after (k .spanning) (.blockWritten .c0) (fun t => (t.session .c0).map (·.state)) = some (some .streaming)
    ∧ after (k .suspending) (.blockWritten .c0) (fun t => (t.link .a).tx) = some warn := by decide +kernel

/-- The CONTINUES summary has been written, with a SCRATCH cartridge in S06 to go on with and with none; the volume block of the span cartridge has been written. -/
def spans (scratch : Bool) : Ctl :=
  let x : Session := { sess with state := .spanning }
  let k := ordered (writes (mount rest 1 .c0 1) x) .c0 .writing (.write []) (.sSumWrite .continues)
  let k := if scratch then (put k 2 (.slot 5)).setCat { k.cat with carts := k.cat.carts ++ [{ cart 2 (some (.slot 5)) with state := .scratch }] } else k
  k.setChan .c0 { k.chan .c0 with bank0 := bank .retained [7] 5, bank1 := bank .closed [8] 6, buf := .held (codeBank .b0 (bank .writing [7] 0) ⟨5, 0, false, 0⟩ 0 .empty) }

/-- The span's second cartridge at its volume block. -/
def spanVolume : Ctl :=
  let x : Session := { sess with state := .spanning, chosen := some (lab 2), contWritten := true }
  let k := ordered (writes (mount rest 2 .c0 0) x) .c0 .writing (.write []) .sVolWrite
  (k.setCat { k.cat with carts := [cart 1 none, { cart 2 (some (.transport .c0)) with state := .scratch, frames := 7, eod := 9, sets := [8] }] }).setChan .c0
    { k.chan .c0 with bank0 := bank .retained [7] 5, buf := .held (codeBank .b0 (bank .writing [7] 0) ⟨5, 0, false, 0⟩ 0 .empty) }

theorem test_EndOfMediaSpans_goes_on_meets :
    let z : Cart := { cart 2 (some (.transport .c0)) with frames := 1, eod := 1, state := .opened, sets := [8, 1] }
    let seen (t : Ctl) := ((t.session .c0).map fun x => (x.state, x.chosen), (t.cat.cart? (lab 1)).map (·.state), t.picker.queue.map (·.kind))
    LawOfWriting spanVolume z (spanVolume.entryIn .c0)
    ∧ (Ans (spans true) ∧ Ans spanVolume ∧ (spans true).unloadRaised .c0 (some (.link .a)) (some (.chan .c0)) = false ∧ ((spans true).elem (.transport .c0)).occ = .full
      ∧ (spans true).picker.queue = [] ∧ (cart 1 none).frames + 1 ≤ (classOf (lab 1)).warning ∧ (spanVolume.tr .c0).pos = 0 ∧ (spanVolume.chan .c0).bank0.state = .retained)
    ∧ after (spans true) (.blockWritten .c0) seen = some (some (.spanning, some (lab 2)), some .full, [.unload, .load])
    ∧ after (spans false) (.blockWritten .c0) seen = some (some (.needCartridge, none), some .full, [.unload])
    ∧ after spanVolume (.blockWritten .c0) (fun t => ((t.cat.cart? (lab 2)).map (·.state), (t.chan .c0).bank0.state, (t.tr .c0).pos)) = some (some .opened, .writing, 1)
    ∧ after spanVolume (.blockWritten .c0) (fun t => (t.cat.set? 1).map fun r => r.extents.map (·.firstBlock)) = some (some [0, 5]) := by
  exact ⟨test_lawful (by decide), by decide, by decide +kernel, by decide +kernel, by decide +kernel, by decide +kernel⟩

/-- The pause is taken at the set's only block with an extent of no block after it; the channel is left IDLE, or passed to the restore that claimed it (R150). -/
theorem test_VerifyReads_pause_passes_meets :
    let v : VerifyEntry := { entry .running with chan := some .c0, pauseAsked := true }
    let xs : List Extent := [⟨lab 1, 1, 0, 1⟩, ⟨lab 3, 1, 1, 0⟩]
    let k0 := verifies (verifyRuns 1) v
    let k := k0.setCat { k0.cat with sets := k0.cat.sets.map fun r => { r with extents := xs } }
    let q : RestoreCtx := { (delivers id) with id := 5, set := 1, extent := 0, state := .claiming, chan := some .c0 }
    let cl := (k.setChan .c0 { k.chan .c0 with claim := some (.restore 5) }).setRestore { k.restore with running := [q] }
    let seen (t : Ctl) := (t.verify.queue.map fun w => (w.state, w.extent), (t.chan .c0).mode, t.restore.running.map (·.state), (t.tr .c0).order.map (·.task))
    ((cl.chan .c0).claim = some (.restore 5) ∧ cl.restore? 5 = some q ∧ q.state = .claiming ∧ cl.restoreLabel q = cl.labelIn .c0 ∧ cl.labelIn .c0 ≠ none ∧ Ans cl
      ∧ v.pauseAsked = true ∧ xs.drop (v.extent + 1) = [⟨lab 3, 1, 1, 0⟩] ++ [])
    ∧ after k (.blockRead .c0 firstBlock) seen = some ([(.paused, 2)], .idle, [], none)
    ∧ after cl (.blockRead .c0 firstBlock) seen = some ([(.paused, 2)], .restore, [.loading], some .rVolLocate) := by
  exact ⟨by decide +kernel, by decide +kernel, by decide +kernel⟩

/-- A restore of set 1, whose extents are given, on channel 0; cartridge 1 stands in T0 at a position. -/
def restoresSet (xs : List Extent) (pos : Nat) (f : RestoreCtx → RestoreCtx) : Ctl :=
  restores (withSet (mount rest 1 .c0 pos) { set 1 1 with extents := xs }) (delivers f)

/-- Damage of a restore (R163): the first block cannot be read, is another one, or does not expand; under SKIP with no record in delivery and with one; the damaged frame has been sent; the seek
reads on, expands, and ends at a record above the damaged one and past the last. -/
theorem test_ExpandedBlockDelivered_damage_meets :
    let xs : List Extent := [⟨lab 1, 1, 0, 10⟩]
    let read (f : RestoreCtx → RestoreCtx) := ordered (restoresSet xs 3 f) .c0 .reading .read .rRead
    let stop := read id
    let skip : RestoreCtx → RestoreCtx := fun r => { r with skip := true }
    let endFrame : OutData := { frame := { chan := .c0, eor := true, damaged := true, payload := [0] }, ended := none, within := none }
    let seen (t : Ctl) := (t.restore.running.map fun r => (r.state, r.damage.map (·.1), r.frames.length), (t.tr .c0).order.map (·.task), (t.link .b).tx)
    let failed (w : Code) : Option TxFrame := some (.notice (.restoreDone 1 1 .failed 0 0 (some w) (some 0)) false)
    let sent0 := restoresSet xs 3 fun r => { skip r with damage := some (0, .readFault), frames := [endFrame], sending := true, credits := 1 }
    let sent := sent0.setLink .b { sent0.link .b with tx := some (.data endFrame.frame) }
    (Ans stop ∧ (stop.cartIn .c0).isSome = true ∧ stop.restore? 1 = some (delivers id) ∧ (stop.restoreExtent (delivers id)).isSome = true ∧ (delivers id).expected < 0 + 10
      ∧ (stop.tr .c0).pos + 1 < 1 + 10)
    ∧ after stop (.blockUnreadable .c0) seen = some ([], some .eject, failed .readFault)
    ∧ after (read fun r => { r with expected := 3 }) (.blockRead .c0 firstBlock) seen = some ([], some .eject, failed .readFault)
    ∧ after (read skip) (.blockUnreadable .c0) seen = some ([(.seeking, some 0, 0)], some .rRead, none)
    ∧ after (read fun r => { skip r with inDelivery := some 0 }) (.blockUnreadable .c0) seen = some ([(.delivering, some 0, 1)], none, none)
    ∧ after (read fun r => { skip r with inDelivery := some 0, credits := 1 }) (.blockUnreadable .c0) seen
      = some ([(.delivering, some 0, 1)], none, some (.data endFrame.frame))
    ∧ ((sent.link .b).data.get .c0 = none ∧ Ans sent)
    ∧ after sent (.frameSent .b) (fun t => (t.restore.running.map fun r => (r.state, r.credits), (t.tr .c0).order.map (·.task))) = some ([(.seeking, 0)], some .rRead) := by
  exact ⟨by decide +kernel, by decide +kernel, by decide +kernel, by decide +kernel, by decide +kernel, by decide +kernel, by decide, by decide +kernel⟩

theorem test_ExpandedBlockDelivered_seek_meets :
    let xs : List Extent := [⟨lab 1, 1, 0, 10⟩]
    let seeks (f : RestoreCtx → RestoreCtx) : Ctl := restoresSet xs 3 fun r => f { r with skip := true, state := .seeking, damage := some (0, .readFault) }
    let blk (n rec : Nat) (cont : Bool) (es : List Nat) : List Byte :=
      dataBlock (cart 1 none) (set 1 1) (codeBank .b0 { bank .coding [7, 8, 9] n with ends := es } ⟨n, rec, cont, 0⟩ 0 .empty)
    let expands (k : Ctl) (bytes : List Byte) : Ctl := match checkBlock bytes with
      | .good b => k.setChan .c0 { k.chan .c0 with expander := .expanding b (some .empty), buf := .raw b }
      | _ => k
    let seen (t : Ctl) := (t.restore.running.map fun r => (r.state, r.nextRec, r.damaged, r.frames.length), (t.tr .c0).order.map (·.task), (t.link .b).tx)
    let told (n : Nat) : Option TxFrame := some (.notice (.restoreDamage 1 0 n .readFault) false)
    let k := ordered (seeks id) .c0 .reading .read .rRead
    let bad := restoresSet xs 3 id
    (Ans k ∧ (k.chan .c0).claim = none ∧ (k.chan .c0).mode = .restore ∧ (expands bad (blk 0 0 false [2])).restore? 1 = some (delivers id))
    ∧ after k (.blockRead .c0 firstBlock) (fun t => ((t.chan .c0).expander == .idle, (t.tr .c0).pos, (t.tr .c0).state)) = some (false, 4, .mounted)
    ∧ after (ordered (seeks fun r => { r with judged := some 0 }) .c0 .reading .read .rRead) (.blockRead .c0 firstBlock) (fun t => ((t.chan .c0).expander == .idle, (t.tr .c0).order.map (·.task)))
      = some (true, some .rRead)
    ∧ after (expands (seeks id) (blk 1 0 true [])) (.expanderReport .c0) seen = some ([(.seeking, 0, 0, 0)], some .rRead, none)
    ∧ after (expands (seeks id) (blk 1 0 true [2])) (.expanderReport .c0) seen = some ([(.delivering, 1, 1, 1)], none, told 0)
    ∧ after (expands (seeks id) (blk 1 3 false [2])) (.expanderReport .c0) seen = some ([(.delivering, 3, 3, 2)], none, told 2)
    ∧ after (expands (seeks fun r => { r with last := 4 }) (blk 1 7 false [])) (.expanderReport .c0) (fun t => (t.restore.running.length, (t.link .b).tx, (t.link .b).notices))
      = some (0, told 4, [.restoreDone 1 1 .complete 0 5 none none])
    ∧ after (match checkBlock firstBlock with
        | .good b => bad.setChan .c0 { bad.chan .c0 with expander := .expanding { b with nativeCrc := b.nativeCrc + 1 } (some .empty), buf := .raw b }
        | _ => bad) (.expanderReport .c0) (fun t => (t.link .b).tx) = some (some (.notice (.restoreDone 1 1 .failed 0 0 (some .codingFault) (some 0)) false)) := by
  exact ⟨by decide +kernel, by decide +kernel, by decide +kernel, by decide +kernel, by decide +kernel, by decide +kernel, by decide +kernel, by decide +kernel⟩

/-- A restore in SWITCHING (R164): its cartridge here at position 0 and away from it, in S04 with T0 empty and full, in P, in T1, in use, not to be had, an extent of no block, and none left. -/
theorem test_RestoreTakesChannel_switch_meets :
    let x (n count : Nat) : Extent := ⟨lab n, 11, 10, count⟩
    let k (next : List Extent) (pos : Nat) (f : RestoreCtx → RestoreCtx) := restoresSet (⟨lab 1, 1, 0, 10⟩ :: next) pos fun r => f { r with state := .switching, extent := 1, expected := 10 }
    let skip : RestoreCtx → RestoreCtx := fun r => { r with skip := true }
    let two := k [x 2 5] 4 id
    let empty := (two.setElem (.transport .c0) (rest.elem (.transport .c0))).setTr .c0 (rest.tr .c0)
    let seen (t : Ctl) := (t.restore.running.map (·.state), (t.tr .c0).order.map (·.task), t.picker.queue.map fun o => (o.kind, o.dest))
    let places (k : Ctl) := after k .restorePlacement seen
    let told (k : Ctl) := after k .restorePlacement fun t => ((t.link .b).tx, (t.link .b).notices)
    let done (w : Code) : Option TxFrame := some (.notice (.restoreDone 1 1 .failed 0 0 (some w) (some 0)) false)
    let dmg (w : Code) : Option TxFrame := some (.notice (.restoreDamage 1 0 4 w) false)
    let complete : Notice := .restoreDone 1 1 .complete 0 5 none none
    (Ans two ∧ two.restore.queue = [] ∧ two.picker.queue = [] ∧ (two.chan .c0).claim = none ∧ two.labelIn .c0 = some (lab 1) ∧ (put two 2 .gripper).findLabel (lab 2) = some .gripper
      ∧ (mount two 2 .c1 3).labelIn .c1 = some (lab 2) ∧ (mount two 2 .c1 3).chanIdle .c1 = true ∧ (put two 2 (.slot 3)).usedByActivity (lab 2) = true
      ∧ (put two 2 (.slot 3)).usedByRestore (lab 2) (some 1) = false ∧ (put two 2 (.slot 3)).findLabel (lab 2) = some (.slot 3) ∧ two.cat.cart? (lab 2) = none)
    ∧ places (k [x 1 5] 0 id) = some ([.switching], some .rVolRead, []) ∧ places (k [x 1 5] 4 id) = some ([.switching], some .rVolLocate, [])
    ∧ places (put two 2 .gripper) = some ([.switching], none, []) ∧ places (mount two 2 .c1 3) = some ([.switching], none, [(.unload, .home)])
    ∧ places ((mount two 2 .c1 3).setChan .c1 { rest.chan .c1 with claim := some .recovery }) = some ([.switching], none, [])
    ∧ places (put empty 2 (.slot 3)) = some ([.switching], none, [(.load, .element (.transport .c0))])
    ∧ places (put two 2 (.slot 3)) = some ([.switching], some .eject, [(.unload, .home), (.load, .element (.transport .c0))])
    ∧ places (k [x 3 0, x 1 5] 4 id) = some ([.switching], some .rVolLocate, [])
    ∧ told two = some (done .noCartridge, []) ∧ told (k [x 2 5] 4 skip) = some (dmg .noCartridge, [complete])
    ∧ places (k [x 2 5] 4 fun r => { r with skip := true, inDelivery := some 0 }) = some ([.delivering], none, [])
    ∧ told (k [] 4 id) = some (done .readFault, []) ∧ told (k [] 4 skip) = some (dmg .readFault, [complete])
    ∧ told (k [] 4 fun r => { r with skip := true, damage := some (0, .codingFault) }) = some (dmg .codingFault, [complete]) := by
  exact ⟨by decide +kernel, by decide +kernel, by decide +kernel, by decide +kernel, by decide +kernel, by decide +kernel, by decide +kernel, by decide +kernel, by decide +kernel, by decide +kernel,
    by decide +kernel, by decide +kernel, by decide +kernel, by decide +kernel, by decide +kernel⟩

/-- R164: a session that the restore displaced orders its own cartridge home; the last frame of an extent takes the restore to the next one; the volume block there is good. -/
theorem test_RestoreTakesChannel_crossing_meets :
    let xs : List Extent := [⟨lab 1, 1, 0, 10⟩, ⟨lab 1, 11, 10, 5⟩]
    let owns := put (restoresSet [⟨lab 3, 1, 0, 10⟩, ⟨lab 2, 11, 10, 5⟩] 4 fun r => { r with state := .switching, extent := 1, expected := 10 }) 2 (.slot 3)
    let y : Session := { sess with setId := 2, state := .suspended }
    let owned := (withSet owns { set 2 3 with state := .writing }).setChan .c0 { owns.chan .c0 with session := some y }
    let f : OutData := { frame with ended := some 3 }
    let c0 := restoresSet xs 4 fun r => { r with expected := 10, frames := [f], sending := true, credits := 1 }
    let c := c0.setLink .b { c0.link .b with tx := some (.data f.frame) }
    let v := ordered (restoresSet xs 0 fun r => { r with state := .switching, extent := 1 }) .c0 .reading .read .rVolRead
    let seen (t : Ctl) := (t.restore.running.map fun r => (r.state, r.extent, r.nextRec, r.expected), (t.tr .c0).order.map (·.task))
    (Ans c ∧ Ans v ∧ (c.restoreExtent (delivers id)).isSome = true ∧ c.labelIn .c0 = some (lab 1) ∧ (c.link .b).data.get .c0 = none
      ∧ volumeCheck (cart 1 (some (.transport .c0))) (checkBlock (volumeBlock (cart 1 none))) = true
      ∧ owned.session .c0 = some y ∧ y.chosen = owned.labelIn .c0 ∧ owned.restoreOn .c0 ≠ none)
    ∧ after owned .restorePlacement (fun t => ((t.session .c0).map (·.unloaded), t.picker.queue.map fun o => (o.kind, o.requester))) = some (some true, [(.unload, some (.link .a)), (.load, some (.link .b))])
    ∧ after c (.frameSent .b) seen = some ([(.switching, 1, 4, 10)], some .rVolLocate)
    ∧ after v (.blockRead .c0 (volumeBlock (cart 1 none))) seen = some ([(.delivering, 1, 0, 10)], some .rLocate) := by
  exact ⟨by decide +kernel, by decide +kernel, by decide +kernel, by decide +kernel⟩

/-- R119: the restore that displaced a session ends at its stall timer, with the session's cartridge in T0 at its end and away from it, and unloaded into S04; the session resumes at a good volume
block and a good last block, and with its close pending, and is aborted at bad ones. -/
theorem test_SessionSteps_resume_meets :
    let x : Session := { sess with state := .suspended, kept := some .b0 }
    let stalls (k0 : Ctl) (x : Session) (n : Nat) : Ctl :=
      let k := withSet (writes k0 x) (set 2 n)
      let k := k.setChan .c0 { k.chan .c0 with mode := .restore, buf := .lent, bank0 := bank .filling [7] 0, bank1 := { Bank.empty with state := .lent }, session := some x }
      { k with restore := { k.restore with running := [delivers fun r => { r with stall := true, displaced := some 1, set := 2 }] } }
    let here (pos : Nat) := stalls (mount rest 1 .c0 pos) x 1
    let away := stalls (put (mount rest 2 .c0 4) 1 (.slot 3)) { x with unloaded := true } 2
    let seen (t : Ctl) := ((t.session .c0).map (·.state), (t.chan .c0).mode, (t.chan .c0).bank1.state, (t.tr .c0).order.map (·.task))
    let raised (t : Ctl) := ((t.session .c0).map (·.state), (t.picker.queue ++ t.picker.held).map (·.kind))
    (Ans (here 0) ∧ Ans away ∧ (here 0).restoreOn .c0 ≠ none ∧ (here 0).labelIn .c0 = x.chosen ∧ ((here 0).cartIn .c0).map (·.eod) = some 1 ∧ away.findLabel (lab 1) = some (.slot 3)
      ∧ ((here 0).chan .c0).claim = none ∧ x.syncPending = false)
    ∧ after (here 0) (.stallTimerExpiry .c0) seen = some (some .resuming, .write, .empty, some .sEndRead)
    ∧ after (here 4) (.stallTimerExpiry .c0) seen = some (some .resuming, .write, .empty, some .sEndLocate)
    ∧ after away (.stallTimerExpiry .c0) raised = some (some .resuming, [.unload, .unload, .load]) := by
  exact ⟨by decide +kernel, by decide +kernel, by decide +kernel, by decide +kernel⟩

theorem test_SessionSteps_resumed_meets :
    let y : Cart := { cart 1 (some (.transport .c0)) with eod := 3, sets := [1] }
    let rs : SetRec := { set 1 1 with state := .writing }
    let blk (n : Nat) := dataBlock y rs (codeBank .b0 { bank .coding [7, 8] n with ends := [2] } ⟨n, n, false, 0⟩ 0 .empty)
    let resumes (pos : Nat) (task : Task) (closing : Bool) : Ctl :=
      let k := writes (mount rest 1 .c0 pos) { sess with state := .resuming, kept := some .b0, closePending := closing }
      ordered { k.setCat { k.cat with carts := [y] } with store := { k.store with auto := false } } .c0 .reading .read task
    let seen (t : Ctl) := ((t.session .c0).map (·.state), (t.cat.cart? (lab 1)).map (·.state), (t.tr .c0).order.map (·.task), (t.link .a).tx)
    let resumed : Option TxFrame := some (.notice (.sessionResumed 1) false)
    let ended : Option TxFrame := some (.notice (.sessionEnded 1 .truncated .resumeFailed 5) false)
    (resumes 2 .sEndRead false).cartIn .c0 = some y ∧ Ans (resumes 2 .sEndRead false)
    ∧ after (resumes 0 .sVolRead false) (.blockRead .c0 (volumeBlock y)) seen = some (some .resuming, some .opened, some .sEndLocate, none)
    ∧ after (resumes 2 .sEndRead false) (.blockRead .c0 (blk 1)) seen = some (some .streaming, some .opened, none, resumed)
    ∧ after (resumes 2 .sEndRead true) (.blockRead .c0 (blk 1)) (fun t => ((t.session .c0).map (·.state), (t.link .a).tx)) = some (some .closing, resumed)
    ∧ after (resumes 0 .sVolRead false) (.blockRead .c0 (blk 1)) (fun t => ((t.session .c0).map (·.state), (t.cat.cart? (lab 1)).map (·.state), (t.link .a).tx)) = some (none, some .unknown, ended)
    ∧ after (resumes 2 .sEndRead false) (.blockRead .c0 (blk 0)) (fun t => ((t.session .c0).map (·.state), (t.cat.cart? (lab 1)).map (·.state), (t.link .a).tx)) = some (none, some .unknown, ended) := by
  exact ⟨by decide +kernel, by decide +kernel, by decide +kernel, by decide +kernel, by decide +kernel, by decide +kernel, by decide +kernel⟩

theorem test_SessionSteps_unresumed_hand_meets :
    let k := emptyHanded .writing (mount rest 1 .c0 1)
    let x : Session := { sess with state := .resuming }
    NothingInHand (k.setChan .c0 { k.chan .c0 with session := some x }) .c0 x := test_emptyHanded (by decide)

/-- A recovery of cartridge 1, which stands in T0 at position 5, reads for a task; `f` changes what it has gathered. -/
def recovers (task : Task) (f : Recovery → Recovery) : Ctl :=
  let k := ordered (mount rest 1 .c0 5) .c0 .reading .read task
  let r : Recovery := { label := lab 1, requester := .link .a, chan := .c0, gen := 1, pos := 5, notes := [], sets := [], leftOut := [], frames := 0, native := 0, coded := 0, eod := 1
                        keptFrames := 0, keptNative := 0, keptCoded := 0 }
  { k.setChan .c0 { k.chan .c0 with claim := some .recovery } with store := { k.store with recovery := some (f r) } }

/-- The volume block of a recovery: its own, another cartridge's, a data block, none, and the end of the data. -/
theorem test_RecoverAnswers_volume_meets :
    let k := recovers .cVolRead id
    let seen (t : Ctl) := (t.store.recovery.map (·.gen), (t.tr .c0).order.map (·.task), (t.cat.cart? (lab 1)).map (·.state), (t.link .a).tx)
    let done (o : RecoverOutcome) (w : Option Code) : Option TxFrame := some (.notice (.recoverDone (lab 1) o 0 0 w) false)
    let read (bytes : List Byte) := after k (.blockRead .c0 bytes) seen
    (Ans k ∧ k.verify.queue = [] ∧ k.picker.held = [] ∧ k.labelIn .c0 = some (lab 1) ∧ (k.tr .c0).pendingEject = false)
    ∧ read (volumeBlock { cart 1 none with generation := 7 }) = some (some 7, some .cRead, some .opened, none)
    ∧ read (volumeBlock (cart 2 none)) = some (none, some .eject, some .opened, done .failed (some .mismatch))
    ∧ read firstBlock = some (none, some .eject, some .opened, done .failed (some .readFault)) ∧ read [] = some (none, some .eject, some .opened, done .failed (some .readFault))
    ∧ after k (.blockUnreadable .c0) seen = some (none, some .eject, some .opened, done .failed (some .readFault))
    ∧ after k (.endOfData .c0 0) seen = some (none, some .eject, some .blank, done .ok none) := by
  exact ⟨by decide +kernel, by decide +kernel, by decide +kernel, by decide +kernel, by decide +kernel, by decide +kernel, by decide +kernel⟩

/-- The scan: a data block, a block of kind SUMMARY (its payload only the set's id) with room and without, a block lost; its end at END_OF_DATA and at a block of another pass, with no set and
with one that is new, that finds 256 sets, that replaces the TRUNCATED set it continues, and that is left out. -/
theorem test_RecoverAnswers_scan_meets :
    let k := recovers .cRead
    let seen (t : Ctl) := t.store.recovery.map fun r => (r.frames, r.notes.length, r.sets.length, r.leftOut)
    let sum := blockBytes { dataHeader (cart 1 none) (set 1 1) (codeBank .b0 { bank .coding [] 0 with ends := [] } ⟨0, 0, false, 0⟩ 0 .empty) with kind := 3, coded := 2 } [] [0, 1] (crc [])
    let stale := dataBlock { cart 1 none with generation := 2 } (set 1 1) (codeBank .b0 (bank .coding [7, 8] 0) ⟨0, 0, false, 0⟩ 0 .empty)
    let holds (x : SetRec) := k fun r => { r with sets := [x], eod := 3, keptFrames := 2 }
    let more : SetRec := { set 1 1 with extents := [⟨lab 2, 1, 0, 1⟩, ⟨lab 1, 1, 1, 1⟩] }
    let cut : SetRec := { set 1 2 with state := .truncated, extents := [⟨lab 2, 1, 0, 1⟩] }
    let ended (t : Ctl) := (t.cat.sets.map (·.state), (t.cat.cart? (lab 1)).map fun y => (y.state, y.eod, y.sets))
    let told (t : Ctl) := (t.store.recovery.isSome, (t.link .a).tx, (t.link .a).notices)
    let done (n m : Nat) : Notice := .recoverDone (lab 1) .ok n m none
    let sent (n m : Nat) : Option TxFrame := some (.notice (done n m) false)
    let conflict : Option TxFrame := some (.notice (.recoverConflict (lab 1) 1) false)
    (Ans (k id) ∧ cut.extents.isPrefixOf more.extents = true ∧ classOf (lab 1) ≠ .unsupported ∧ (k id).store.reload = .none)
    ∧ after (k id) (.blockRead .c0 firstBlock) seen = some (some (1, 1, 0, [])) ∧ after (k id) (.blockRead .c0 sum) seen = some (some (1, 0, 1, []))
    ∧ after (k fun r => { r with sets := List.replicate 32 (set 2 1) }) (.blockRead .c0 sum) seen = some (some (1, 0, 32, [1]))
    ∧ after (k id) (.blockUnreadable .c0) seen = some (some (65, 0, 0, [])) ∧ after (k id) (.blockRead .c0 []) seen = some (some (65, 0, 0, []))
    ∧ after (k id) (.endOfData .c0 9) ended = some ([], some (.opened, 1, [])) ∧ after (k id) (.endOfData .c0 9) told = some (false, sent 0 0, [])
    ∧ after (holds (set 1 1)) (.blockRead .c0 stale) ended = some ([.closed], some (.opened, 3, [1])) ∧ after (holds (set 1 1)) (.blockRead .c0 stale) told = some (false, sent 1 0, [])
    ∧ after (withSet (holds more) cut) (.endOfData .c0 9) ended = some ([.closed], some (.opened, 3, [1]))
    ∧ after (withSet (holds (set 1 1)) cut) (.endOfData .c0 9) ended = some ([.truncated], some (.full, 3, []))
    ∧ after (withSet (holds (set 1 1)) cut) (.endOfData .c0 9) told = some (false, conflict, [done 0 1])
    ∧ after ((holds (set 1 1)).setCat { (holds (set 1 1)).cat with sets := List.replicate 256 (set 9 9) }) (.endOfData .c0 9) (fun t => (t.cat.sets.length, (t.link .a).tx)) = some (256, conflict) := by
  exact ⟨by decide +kernel, by decide +kernel, by decide +kernel, by decide +kernel, by decide +kernel, by decide +kernel, by decide +kernel,
    by decide +kernel, by decide +kernel, by decide +kernel, by decide +kernel, by decide +kernel, by decide +kernel, by decide +kernel⟩

/-- LINK_RESET while Link A has an order waiting, a held offer, a door request, another's door request, a session with a block in hand and with none, a restore, a verify entry that has and has not
started, a recovery. -/
theorem test_LinkResets_ends_meets :
    let resets {α : Type} (k : Ctl) (f : Ctl → α) := after (asks k (.link .a) (.linkReset 0)) (.linkReset (.link .a) 0) f
    let moves : Ctl := { rest with picker := { rest.picker with queue := [{ mover with state := .running }, { mover with id := 2 }, { mover with id := 3, requester := some .panel }], held := [mover] } }
    let asking (p : Requester) := rest.setDoor .l { Door.initial with state := .asking, requester := some p, asked := ⟨false, true⟩, granted := ⟨true, false⟩ }
    let k := atTape streams
    let hand := k.setChan .c0 { k.chan .c0 with bank0 := bank .writing [7] 0, bank1 := bank .closed [7] 0 }
    let bare := emptyHanded .opening (mount rest 1 .c0 1)
    let r : RestoreCtx := { delivers id with requester := .a }
    let own := (restores rest r).setLink .a { rest.link .a with data := ⟨some frame.frame, none⟩ }
    let v (s : VerifyState) := verifies (withSet rest (set 1 1)) (entry s)
    let scan := (recovers .cRead id).setTr .c0 Transport.initial
    let door (t : Ctl) := ((t.door .l).state, (t.door .l).granted.get .a, (t.link .a).notices, (t.link .b).tx)
    AtHead (st (asks rest (.link .a) (.linkReset 0))) (.link .a) (hd (.linkReset 0)) (.linkReset 0) ∧ WaitsToAbort hand .c0 sess { set 1 1 with state := .writing } .b0 ∧ NothingInHand bare .c0 sess
    ∧ (Ans moves ∧ Ans own ∧ Ans scan ∧ own.restoreOn .c0 = some r ∧ (own.chan .c0).claim = none ∧ (scan.chan .c0).claim = some .recovery ∧ (v .waiting).cat.set? 1 = some (set 1 1))
    ∧ resets moves (fun t => (t.picker.queue.map (·.id), t.picker.held.length)) = some ([1, 3], 0)
    ∧ resets (asking (.link .a)) door = some (.locked, false, [.resetDone .linkReset], some (.notice (.door .l .locked .reset) false))
    ∧ resets (asking .panel) door = some (.asking, false, [.resetDone .linkReset, .quiesceAsk .l], none)
    ∧ resets hand (fun t => (t.session .c0).map (·.state)) = some (some .aborting) ∧ resets bare (fun t => ((t.session .c0).map (·.state), t.cat.sets.length)) = some (none, 0)
    ∧ resets own (fun t => ((t.link .a).notices, (t.link .a).data.get .c0, t.restore.running.length))
      = some ([.resetDone .linkReset, .restoreDone 1 1 .cancelled 0 0 (some .reset) (some 0)], none, 0)
    ∧ resets (v .waiting) (fun t => ((t.link .a).notices, t.verify.queue.length)) = some ([.resetDone .linkReset], 0)
    ∧ resets (v .paused) (fun t => ((t.link .a).notices, (t.cat.set? 1).map (·.verify))) = some ([.resetDone .linkReset, .verifyDone 1 .incomplete 0 0 (some .reset)], some .incomplete)
    ∧ resets scan (fun t => ((t.link .a).notices, t.store.recovery.isSome)) = some ([.resetDone .linkReset, .recoverDone (lab 1) .cancelled 0 0 (some .reset)], false) := by
  exact ⟨by unfold AtHead; decide, ⟨by decide, by decide, by decide, by decide, by decide, by decide, by decide, by decide, test_answered (by decide)⟩, test_emptyHanded (by decide), by decide +kernel,
    by decide +kernel, by decide +kernel, by decide +kernel, by decide +kernel, by decide +kernel, by decide +kernel, by decide +kernel, by decide +kernel, by decide +kernel⟩

/-- A loss of lock cuts off a DATA_IN frame, which is kept beside its channel's next one (R178); an exported cartridge whose provisional label is reported back is a newly found one, as no reader
can report such a label (R22, R3); an aborted session sends no volume block (log 21). -/
theorem test_cut_exported_dropped :
    let d (c : Chan) : DataIn := { chan := c, eor := false, damaged := false, payload := [7] }
    let p := rest.setLink .a { rest.link .a with tx := some (.data (d .c0)), data := ⟨some { d .c0 with eor := true }, none⟩ }
    let ab := ordered (writes (mount rest 1 .c0 3) { sess with state := .aborting }) .c0 .moving (.locate 0) .sVolWriteLocate
    let prov : Label := 0x3F#8 :: (Element.slot 0).name
    let m := el (put rest 1 .mail) .mail fun r => { r with entry := r.entry.map fun e => { e with label := some prov } }
    let ex := running m (auditOrder 1 (.element .mail) (.exportScan (.link .a) prov)) (.read .mail) (.scanning [.mail])
    after p (.lockLost .a) (fun t => ((t.link .a).cut, ((t.link .a).data.get .c0).map (·.eor), (t.link .a).online)) = some (some (d .c0), some true, false)
    ∧ after ab (.positioned .c0) (fun t => (t.tr .c0).order.map (·.task)) ≠ some (some .sVolWrite)
    ∧ after ex (.readDone (.label prov)) (fun t => (t.labelAt .mail, (t.link .a).tx)) = some (some (0x3F#8 :: Element.mail.name), some (.notice (.mailSlot .exported .ok (some prov)) false)) := by decide +kernel

/-! ## Ill-formed commands, each refused by the check it breaks -/

theorem test_wellFormed_numbers :
    (Instr.reserve .panel 256).wf = false ∧ (Instr.sync (.link .a) 65536).wf = false ∧ (Instr.setWatch .panel 0 0 0 32768 0 0).wf = false
    ∧ (Instr.setWatch .panel 0 0 0 (-32769) 0 0).wf = false ∧ (Instr.restore (.link .a) 1 4294967296 .all 0).wf = false ∧ (Instr.move .panel 1 256).wf = false := by decide

theorem test_wellFormed_labels :
    (Instr.reclaim .panel (lab 1 ++ [0x41#8])).wf = false ∧ (Instr.reclaim .panel [0x41#8, 0x20#8]).wf = false ∧ (Instr.reclaim .panel (lab 1)).wf = true := by decide

theorem test_wellFormed_variants :
    (Instr.importCart .panel (.element 0)).wf = false ∧ (Instr.unload .panel 26 (.element 0)).wf = false ∧ (Instr.readSet .panel 1 (.other 1)).wf = false
    ∧ (Instr.listSets .panel (.other 2) 1).wf = false ∧ (Instr.openSet (.link .a) 0 (.other 1) 0 0 0 0 0).wf = false
    ∧ (Instr.setVerifyPolicy (.link .a) 0 1 1 0 (.other 2) 0).wf = false ∧ (Instr.restore (.link .a) 1 0 (.other 1) 0).wf = false := by decide

theorem test_wellFormed_frames :
    (Instr.requestFrame .panel 256 1 []).wf = false ∧ (Instr.requestFrame .panel 0 256 []).wf = false ∧ (Instr.creditFrameReceived .a 0 256).wf = false
    ∧ (Instr.dataOut .a 256 0 [1]).wf = false ∧ (Instr.dataOut .a 0 256 [1]).wf = false ∧ (Instr.requestFrame .panel 255 255 []).wf = true := by decide

/-- Bodies and dictionaries one byte longer than a frame holds. -/
theorem test_wellFormed_lengths (b : Byte) :
    (Instr.requestFrame .panel 0 1 (List.replicate 4159 b)).wf = false ∧ (Instr.dataOut .a 0 0 (List.replicate 4159 b)).wf = false
    ∧ (Instr.writeDictionary (.link .a) 1 (List.replicate 4158 b)).wf = false := by
  refine ⟨?_, ?_, ?_⟩
  · show (fitsByte 0 && fitsByte 1 && decide ((List.replicate 4159 b).length ≤ 4158)) = false
    rw [List.length_replicate]; decide
  · show (fitsByte 0 && fitsByte 0 && decide ((List.replicate 4159 b).length ≤ 4158)) = false
    rw [List.length_replicate]; decide
  · show (fitsByte 1 && decide ((List.replicate 4158 b).length ≤ dictionaryRoom)) = false
    rw [List.length_replicate]; decide

/-! ## The manual's worked values -/

def ascii (l : List Nat) : List Byte := l.map (BitVec.ofNat 8)

/-- The check value of "123456789", and of no bytes (R98). -/
theorem test_crc_check_value : crc (ascii [49, 50, 51, 52, 53, 54, 55, 56, 57]) = 0xCBF43926#32 ∧ crc [] = 0#32 := by decide +kernel

/-- 5.10: "ABCABCABCX" without a dictionary. -/
def abc : List Byte := ascii [65, 66, 67, 65, 66, 67, 65, 66, 67, 88]

theorem test_coding_repeating_group : codeTokens [] abc = some (ascii [2, 65, 66, 67, 131, 0, 2, 0, 88]) := by decide +kernel

/-- 5.11: "HELLO HELP" after the dictionary "HELLO ". -/
theorem test_coding_with_dictionary :
    codeTokens (ascii [72, 69, 76, 76, 79, 32]) (ascii [72, 69, 76, 76, 79, 32, 72, 69, 76, 80]) = some (ascii [134, 0, 5, 0, 80])
    ∧ codeTokens [] (ascii [72, 69, 76, 76, 79, 32, 72, 69, 76, 80]) = none := by decide +kernel

/-- 5.12: 400 times one byte. 5.13: two banks that are stored raw. -/
theorem test_coding_long_run :
    codeTokens [] (List.replicate 400 65) = some (ascii [0, 65, 255, 0, 0, 255, 0, 0, 255, 0, 0, 134, 0, 0]) ∧ codeTokens [] (ascii [65, 66]) = none
      ∧ codeTokens [] (ascii [65, 65, 65]) = none := by decide +kernel

/-- 5.14: the block of 5.10 read back whole, and with one payload byte changed. -/
def readBack (payload : List Nat) : Expansion :=
  expand .empty { hdr := { (dataHeader (cart 1 none) (set 1 1) (codeBank .b0 { Bank.empty with bytes := abc } ⟨0, 0, false, 0⟩ 0 .empty)) with coded := payload.length }
                  ends := [], payload := ascii payload, blockCrc := 0, nativeCrc := crc abc }

theorem test_expand_damaged :
    readBack [2, 65, 66, 67, 131, 0, 2, 0, 88] = { out := abc, fault := none }
    ∧ (readBack [2, 65, 66, 67, 132, 0, 2, 0, 88]).fault = some .overlong ∧ (readBack [2, 65, 66, 67, 132, 0, 2, 0, 88]).out.length = 10
    ∧ (readBack [2, 65, 66, 67, 131, 0, 5, 0, 88]).fault = some .beforeDictionary ∧ (readBack [2, 65, 66, 67, 131, 0, 5, 0, 88]).out.length = 3
    ∧ (readBack [2, 65, 66, 67, 131, 16, 2, 0, 88]).fault = some .distanceRange
    ∧ (readBack [2, 65, 66, 67, 131, 0, 2, 1, 88]).fault = some .truncatedToken ∧ (readBack [2, 65, 66, 67, 131, 0, 2, 1, 88]).out.length = 9
    ∧ (readBack [2, 65, 66, 67, 131, 0, 2, 0, 89]).fault = none ∧ (readBack [2, 65, 66, 67, 131, 0, 2, 0, 89]).out ≠ abc := by decide +kernel

/-- The worked case of R137: both estimates. 5.10 and 5.12: the ratios. -/
theorem test_estimate :
    { cart 1 none with frames := 150000000, native := 300000000000, coded := 150000000000 }.estimate = 58593
    ∧ { cart 1 none with label := ascii [75, 48, 48, 52, 49, 53, 76, 49], frames := 0 }.estimate = 351562 ∧ ratio 10 9 = 111 ∧ ratio 400 14 = 2857 := by decide

/-- The first thinning of 4.6: at block 4,096 the 64 points become 33, at interval 128; block 4,160 has none. -/
theorem test_index_thinning :
    let r : SetRec := { set 1 1 with interval := 64, index := (List.range 64).map fun n => ⟨64 * n, n, false⟩ }
    (r.addIndex 4096 9 false).index.length = 33 ∧ (r.addIndex 4096 9 false).interval = 128 ∧ (r.addIndex 4096 9 false).addIndex 4160 9 false = r.addIndex 4096 9 false := by
  decide +kernel

/-- R7: TOP with index 3 protects S21 to S24. -/
theorem test_protect_top : (List.finRange 24).filter (fun i => (Protect.mk .top 3).covers i) = [20, 21, 22, 23] := by decide

/-- R53, R54, 11.1: a stored setting of 0 to 240 takes one byte; the fail-safe hold and the hold, on and off, are sent as 0 and 1, before the acclimation setting. -/
theorem test_climate_bytes :
    (Result.setting 240).bytes = [240#8] ∧ (Result.setting 60).bytes = [60#8]
    ∧ ({ rest with climate := { rest.climate with failSafe := true, hold := false, acclimation := 5 } }.climateAnswer.bytes.reverse.take 3) = [5#8, 1#8, 0#8] := by decide

/-- R4: the provisional label of a cartridge read in S07, and the next one where that label already stands. -/
theorem test_provisional_label :
    rest.provisionalLabel (.slot 6) (.slot 6) = ascii [63, 83, 48, 55]
    ∧ (rest.setElem .mail { occ := .full, entry := some { label := some (ascii [63, 83, 48, 55]), home := none, acclim := 0, tab := .unknown }, reserved := none }).provisionalLabel
        (.slot 6) (.slot 6) = ascii [63, 83, 48, 55, 65] := by decide
end Sys2Proof.Tests
end

namespace Sys2Proof.Machine

/-! ## The end of a command with nothing due (R129, R171) -/

/-- Nothing is due at the end of a command, whatever was written to the blocks that hold neither a transport, nor a session, nor the RELOAD in progress. -/
theorem Answered.of_same_parts {k t : Ctl} (ha : Answered k) (htr : t.trans = k.trans) (hch : t.chans = k.chans) (hre : t.store.reload = k.store.reload) : Answered t := by
  obtain ⟨hrej, hwait⟩ := ha
  constructor
  · simpa only [Ctl.tr, htr] using hrej
  · simpa only [Ctl.session, Ctl.chan, hch, hre] using hwait

/-- With no order refused, no order is answered. -/
theorem Ctl.answerRefusals_of_none {k : Ctl} (h : ∀ c, (k.tr c).rejected = none) : k.answerRefusals = k := by
  have hnone : k.noneRefused = true := by simp [Ctl.noneRefused, h]
  simp only [Ctl.answerRefusals, Ctl.answerAll, hnone, if_true]

/-- A RELOAD that waits for the sessions it has aborted goes on only when none of them is ABORTING. -/
theorem Ctl.reloadGoesOn_of_waiting {k : Ctl}
    (h : k.store.reload = .ending ∨ k.store.reload = .again → ∃ c x, k.session c = some x ∧ x.state = .aborting) : k.reloadGoesOn = k := by
  unfold Ctl.reloadGoesOn
  split
  next => rfl
  next hab =>
    have hnot : ¬(k.store.reload = .ending ∨ k.store.reload = .again) := by
      intro hw
      obtain ⟨c, x, hx, hst⟩ := h hw
      cases c <;> simp [Ctl.aborting, hx, hst] at hab
    split <;> simp_all

theorem Answered.commandEnd_eq {k : Ctl} (ha : Answered k) : k.commandEnd = k := by
  obtain ⟨hrej, hwait⟩ := ha
  rw [Ctl.commandEnd, Ctl.answerRefusals_of_none hrej, Ctl.reloadGoesOn_of_waiting hwait]

theorem Answered.afterAnswer {k : Ctl} (ha : Answered k) (p : Requester) (q : QueuedReq) (code : Code) (r : Result) : Answered (k.afterAnswer p q code r) :=
  ha.of_same_parts (by simp) (by simp) (by simp)

/-! ## The Store Controller's view of a change (R167, R169) -/

@[simp] theorem Store.noteChange_reload (st : Store) : st.noteChange.reload = st.reload := by
  unfold Store.noteChange
  split <;> rfl

/-- An auto-checkpoint that is asked for writes the store alone, and not its RELOAD. -/
theorem Ctl.autoCheckpoint_writes_store (k : Ctl) : ∃ st : Store, st.reload = k.store.reload ∧ k.autoCheckpoint = k.setStore st := by
  unfold Ctl.autoCheckpoint
  split
  next hauto =>
    unfold Ctl.askCheckpoint
    split
    next hbusy => exact ⟨_, by rfl, rfl⟩
    next hfree => exact ⟨_, by rfl, rfl⟩
  next hoff => exact ⟨k.store, rfl, rfl⟩

theorem Answered.autoCheckpoint {k : Ctl} (ha : Answered k) : Answered k.autoCheckpoint := by
  obtain ⟨st, hre, heq⟩ := k.autoCheckpoint_writes_store
  rw [heq]
  exact ha.of_same_parts rfl rfl hre

/-! ## A set record looked up and changed (R78) -/

theorem Catalog.set?_id {cat : Catalog} {n : Nat} {r : SetRec} (h : cat.set? n = some r) : r.id = n := by
  simpa using List.find?_some h

/-- A set's record that becomes another one makes another catalog. -/
theorem Catalog.modSet_ne {cat : Catalog} {n : Nat} {r : SetRec} {f : SetRec → SetRec} (h : cat.set? n = some r) (hf : f r ≠ r) : cat.modSet n f ≠ cat := by
  intro heq
  have hsame : cat.sets.map (fun r => if r.id = n then f r else r) = cat.sets.map id := by
    rw [List.map_id]
    exact congrArg Catalog.sets heq
  have hr := List.map_inj_left.1 hsame r (List.mem_of_find?_eq_some h)
  exact hf (by simpa [Catalog.set?_id h] using hr)

/-- A changed set record is a catalog change that is reported to the Store Controller. -/
theorem Ctl.modSet_of_changed {k : Ctl} {n : Nat} {r : SetRec} {f : SetRec → SetRec} (h : k.cat.set? n = some r) (hf : f r ≠ r) :
    k.modSet n f = { k with cat := k.cat.modSet n f, store := k.store.noteChange } := by
  rw [Ctl.modSet, Ctl.putCat, if_neg (Catalog.modSet_ne h hf)]
  rfl

/-! ## EXPIRE_SET (R70) -/

theorem SetRec.mayAct_iff (r : SetRec) (p : Requester) : r.mayAct p = true ↔ p = .panel ∨ p = .link r.owner := by simp [SetRec.mayAct]

/-- An EXPIRE_SET at the head of its port's queue is answered for its set, whoever sends it. -/
theorem exec_expireSet_atHead {s : State} {p : Requester} {q : QueuedReq} {n today : Nat} (h : AtHead s p q (.expireSet n today)) :
    exec (.expireSet p n today) s = .next (s.withCtl ((s.ctl.popRequest p).answerExpireSet p q.tag n today).commandEnd) := by
  have hp : (Req.expireSet n today).permitted p = true := by cases p <;> rfl
  change Host.Outcome.next (s.withCtl (s.ctl.takeRequest p (.expireSet n today) _).commandEnd) = _
  rw [Ctl.takeRequest_permitted _ h hp]

/-- The answer of R70's table, the first failing check first. -/
theorem Ctl.expireAnswer_code (k : Ctl) (p : Requester) (r : SetRec) (today : Nat) :
    (k.expireAnswer p r today).1 =
      if ¬(p = .panel ∨ p = .link r.owner) then .notOwner
      else if r.state = .opening ∨ r.state = .writing then .wrongState
      else if r.state = .expired then .ok
      else if k.setRestoring r.id = true then .inUse
      else if r.writtenDay + r.retention ≤ today then .ok
      else if p ≠ .panel then .retentionHeld
      else if k.inv.key = .lock then .keyLocked
      else .ok := by
  simp only [Ctl.expireAnswer, ← SetRec.mayAct_iff, Bool.not_eq_true, SetRec.runOut, decide_eq_true_eq]
  (repeat' split) <;> rfl

/-- The set is to become EXPIRED exactly where the answer is OK and it is not EXPIRED yet. -/
theorem Ctl.expireAnswer_expires_iff (k : Ctl) (p : Requester) (r : SetRec) (today : Nat) :
    (k.expireAnswer p r today).2 = true ↔ (k.expireAnswer p r today).1 = .ok ∧ r.state ≠ .expired := by
  unfold Ctl.expireAnswer
  (repeat' split) <;> simp_all

/-- The request's leaving its queue decides none of the checks. -/
theorem Ctl.popRequest_expireAnswer (k : Ctl) (p p' : Requester) (r : SetRec) (today : Nat) :
    (k.popRequest p').expireAnswer p r today = k.expireAnswer p r today := by
  simp [Ctl.expireAnswer, Ctl.setRestoring]

theorem Ctl.answerExpireSet_notFound {k : Ctl} {p : Requester} {q : QueuedReq} {n today : Nat} (h : k.cat.set? n = none) :
    (k.popRequest p).answerExpireSet p q.tag n today = k.afterAnswer p q .notFound := by
  simp only [Ctl.answerExpireSet, Ctl.popRequest_cat, h, Ctl.afterAnswer]

/-- For a set with a record, EXPIRE_SET gives the answer of the table, and the set expires where it says so. -/
theorem Ctl.answerExpireSet_found {k : Ctl} {p : Requester} {q : QueuedReq} {n today : Nat} {r : SetRec} (h : k.cat.set? n = some r) :
    (k.popRequest p).answerExpireSet p q.tag n today =
      if (k.expireAnswer p r today).2 = true then (k.afterAnswer p q (k.expireAnswer p r today).1).expire n
      else k.afterAnswer p q (k.expireAnswer p r today).1 := by
  simp only [Ctl.answerExpireSet, Ctl.popRequest_cat, h, Ctl.popRequest_expireAnswer, Ctl.afterAnswer]

/-- A set that no verify entry stands for becomes EXPIRED, the change is reported, and an auto-checkpoint follows. -/
theorem Ctl.expire_of_unverified {k : Ctl} {n : Nat} {r : SetRec} (h : k.cat.set? n = some r) (hst : r.state ≠ .expired) (hv : k.verifyOf n = none) :
    k.expire n =
      ({ k with cat := k.cat.modSet n fun r => { r with state := .expired }, store := k.store.noteChange }).autoCheckpoint := by
  have hchange : ({ r with state := .expired } : SetRec) ≠ r := fun heq => hst (congrArg SetRec.state heq).symm
  have hset := Ctl.modSet_of_changed (f := fun r => { r with state := .expired }) h hchange
  have hv' : (k.modSet n fun r => { r with state := .expired }).verifyOf n = none := by rw [hset]; exact hv
  simp only [Ctl.expire, hv']
  rw [hset]

/-- No transport order and no session has a part in the expiry of a set that no verify entry stands for. -/
theorem Answered.expire {k : Ctl} {n : Nat} {r : SetRec} (ha : Answered k) (h : k.cat.set? n = some r) (hst : r.state ≠ .expired) (hv : k.verifyOf n = none) :
    Answered (k.expire n) := by
  rw [Ctl.expire_of_unverified h hst hv]
  apply Answered.autoCheckpoint
  exact ha.of_same_parts rfl rfl (Store.noteChange_reload _)

/-! ## SET_RETENTION (R71) -/

/-- A SET_RETENTION at the head of its port's queue is answered for its set, whoever sends it. -/
theorem exec_setRetention_atHead {s : State} {p : Requester} {q : QueuedReq} {n days : Nat} (h : AtHead s p q (.setRetention n days)) :
    exec (.setRetention p n days) s = .next (s.withCtl ((s.ctl.popRequest p).answerSetRetention p q.tag n days)) := by
  have hp : (Req.setRetention n days).permitted p = true := by cases p <;> rfl
  change Host.Outcome.next (s.withCtl (s.ctl.takeRequest p (.setRetention n days) _)) = _
  rw [Ctl.takeRequest_permitted _ h hp]

theorem Ctl.answerSetRetention_notFound {k : Ctl} {p : Requester} {q : QueuedReq} {n days : Nat} (h : k.cat.set? n = none) :
    (k.popRequest p).answerSetRetention p q.tag n days = k.afterAnswer p q .notFound := by
  simp only [Ctl.answerSetRetention, Ctl.popRequest_cat, h, Ctl.afterAnswer]

theorem Ctl.answerSetRetention_notOwner {k : Ctl} {p : Requester} {q : QueuedReq} {n days : Nat} {r : SetRec} (h : k.cat.set? n = some r)
    (hmay : ¬(p = .panel ∨ p = .link r.owner)) : (k.popRequest p).answerSetRetention p q.tag n days = k.afterAnswer p q .notOwner := by
  rw [← SetRec.mayAct_iff, Bool.not_eq_true] at hmay
  simp only [Ctl.answerSetRetention, Ctl.popRequest_cat, h, hmay, if_true, Ctl.afterAnswer]

theorem Ctl.answerSetRetention_expired {k : Ctl} {p : Requester} {q : QueuedReq} {n days : Nat} {r : SetRec} (h : k.cat.set? n = some r)
    (hmay : p = .panel ∨ p = .link r.owner) (hst : r.state = .expired) :
    (k.popRequest p).answerSetRetention p q.tag n days = k.afterAnswer p q .setExpired := by
  rw [← SetRec.mayAct_iff] at hmay
  simp [Ctl.answerSetRetention, Ctl.popRequest_cat, h, hmay, hst, Ctl.afterAnswer]

/-- A set whose retention may be changed: the clamped days are compared with it, a refused shortening keeps it, and what changes is the record's retention alone. -/
theorem Ctl.answerSetRetention_compared {k : Ctl} {p : Requester} {q : QueuedReq} {n days : Nat} {r : SetRec} {code : Code} {kept : Nat} (h : k.cat.set? n = some r)
    (hmay : p = .panel ∨ p = .link r.owner) (hst : r.state ≠ .expired)
    (hcode : (if min days 3650 < r.retention then k.shortenAnswer p else .ok) = code) (hkept : (if code = .ok then min days 3650 else r.retention) = kept) :
    (k.popRequest p).answerSetRetention p q.tag n days =
      if kept = r.retention then k.afterAnswer p q code (.stored kept)
      else (k.afterAnswer p q code (.stored kept)).modSet n fun r => { r with retention := kept } := by
  rw [← SetRec.mayAct_iff] at hmay
  subst hcode hkept
  have hshorten : (k.popRequest p).shortenAnswer p = k.shortenAnswer p := by simp [Ctl.shortenAnswer]
  simp [Ctl.answerSetRetention, Ctl.popRequest_cat, h, hmay, hst, hshorten, Ctl.answerSetRetention.clampRetention, Config.maxRetention, Ctl.afterAnswer]

/-- The panel alone shortens a retention, with the key OPEN. -/
theorem Ctl.shortenAnswer_refused {k : Ctl} {p : Requester} (h : p ≠ .panel ∨ k.inv.key = .lock) :
    k.shortenAnswer p = if p = .panel then .keyLocked else .retentionHeld := by
  unfold Ctl.shortenAnswer
  by_cases hp : p = .panel
  · have hkey := h.resolve_left (not_not_intro hp)
    simp [hp, hkey]
  · simp [hp]

theorem Ctl.shortenAnswer_panel_opened {k : Ctl} (hkey : k.inv.key = .opened) : k.shortenAnswer .panel = .ok := by simp [Ctl.shortenAnswer, hkey]

/-- A shortening that is refused is answered with the retention that stands. -/
theorem Ctl.answerSetRetention_shortenRefused {k : Ctl} {p : Requester} {q : QueuedReq} {n days : Nat} {r : SetRec} (h : k.cat.set? n = some r)
    (hmay : p = .panel ∨ p = .link r.owner) (hst : r.state ≠ .expired) (hlt : min days 3650 < r.retention) (hheld : p ≠ .panel ∨ k.inv.key = .lock) :
    (k.popRequest p).answerSetRetention p q.tag n days = k.afterAnswer p q (if p = .panel then .keyLocked else .retentionHeld) (.stored r.retention) := by
  have hne : (if p = .panel then Code.keyLocked else .retentionHeld) ≠ .ok := by split <;> decide
  rw [Ctl.answerSetRetention_compared h hmay hst ((if_pos hlt).trans (Ctl.shortenAnswer_refused hheld)) (if_neg hne), if_pos rfl]

/-- The retention the set has already is answered OK and changes nothing. -/
theorem Ctl.answerSetRetention_equal {k : Ctl} {p : Requester} {q : QueuedReq} {n days : Nat} {r : SetRec} (h : k.cat.set? n = some r)
    (hmay : p = .panel ∨ p = .link r.owner) (hst : r.state ≠ .expired) (heq : min days 3650 = r.retention) :
    (k.popRequest p).answerSetRetention p q.tag n days = k.afterAnswer p q .ok (.stored (min days 3650)) := by
  rw [Ctl.answerSetRetention_compared h hmay hst (if_neg heq.not_lt) (if_pos rfl), if_pos heq]

/-- A lengthening, and the panel's shortening with the key OPEN, change the record, and the change is reported; no auto-checkpoint is asked for. -/
theorem Ctl.answerSetRetention_changed {k : Ctl} {p : Requester} {q : QueuedReq} {n days : Nat} {r : SetRec} (h : k.cat.set? n = some r)
    (hmay : p = .panel ∨ p = .link r.owner) (hst : r.state ≠ .expired)
    (hd : r.retention < min days 3650 ∨ min days 3650 < r.retention ∧ p = .panel ∧ k.inv.key = .opened) :
    (k.popRequest p).answerSetRetention p q.tag n days =
      { k.afterAnswer p q .ok (.stored (min days 3650)) with
        cat := k.cat.modSet n fun r => { r with retention := min days 3650 }, store := k.store.noteChange } := by
  have hcode : (if min days 3650 < r.retention then k.shortenAnswer p else .ok) = .ok := by
    rcases hd with hlt | ⟨hlt, rfl, hkey⟩
    · exact if_neg hlt.not_gt
    · rw [if_pos hlt, Ctl.shortenAnswer_panel_opened hkey]
  have hne : min days 3650 ≠ r.retention := by omega
  have hchange : ({ r with retention := min days 3650 } : SetRec) ≠ r := fun heq => hne (congrArg SetRec.retention heq)
  rw [Ctl.answerSetRetention_compared h hmay hst hcode (if_pos rfl), if_neg hne, Ctl.modSet_of_changed (r := r) (by simpa using h) hchange]
  simp

end Sys2Proof.Machine

section
open Sys2Proof Sys2Proof.Machine

/-- Settles O29: for EXPIRE_SET, R70's table decides the answer and the expiry, and nothing is due when the command ends; SET_RETENTION by the checks of R71 in their order. -/
theorem retentionAnswers : Obligations.RetentionAnswers := by
  intro s p q n may
  constructor
  · intro today hhead
    have hexec := exec_expireSet_atHead hhead
    constructor
    · intro hnone ha
      rw [hexec, Ctl.answerExpireSet_notFound hnone, (ha.afterAnswer p q _ _).commandEnd_eq]
    · intro r hr out code
      have hcode : (s.ctl.expireAnswer p r today).1 = code := by rw [Ctl.expireAnswer_code, Catalog.set?_id hr]
      have hexpires := Ctl.expireAnswer_expires_iff s.ctl p r today
      rw [Ctl.answerExpireSet_found hr, hcode] at hexec
      rw [hcode] at hexpires
      constructor
      · intro hstays ha
        rw [hexec, if_neg (by rw [hexpires]; tauto), (ha.afterAnswer p q _ _).commandEnd_eq]
      · intro hok hst hv ha
        have hr' : (s.ctl.afterAnswer p q .ok).cat.set? n = some r := by simpa using hr
        have hv' : (s.ctl.afterAnswer p q .ok).verifyOf n = none := by simpa [Ctl.verifyOf] using hv
        rw [hexec, if_pos (hexpires.2 ⟨hok, hst⟩), hok, ((ha.afterAnswer p q .ok .none).expire hr' hst hv').commandEnd_eq,
          Ctl.expire_of_unverified hr' hst hv']
        simp [Catalog.modSet]
  · intro days hhead
    have hexec := exec_setRetention_atHead hhead
    constructor
    · intro hnone
      rw [hexec, Ctl.answerSetRetention_notFound hnone]
    · intro r hr d
      refine ⟨fun hmay => ?_, fun hmay hst => ?_, fun hmay hst hlt hheld => ?_, fun hmay hst heq => ?_, fun hmay hst hd => ?_⟩
      · rw [hexec, Ctl.answerSetRetention_notOwner hr hmay]
      · rw [hexec, Ctl.answerSetRetention_expired hr hmay hst]
      · rw [hexec, Ctl.answerSetRetention_shortenRefused hr hmay hst hlt hheld]
      · rw [hexec, Ctl.answerSetRetention_equal hr hmay hst heq]
      · rw [hexec, Ctl.answerSetRetention_changed hr hmay hst hd]
        rfl

end

/-! # The law of dictionaries (R82) -/

namespace Sys2Proof.Machine

/-! ## What the answers to the requests that set nothing leave standing (chapter 11) -/

@[simp] theorem Ctl.answerReadInventory_standing (s : Ctl) (p : Requester) (tag e : Nat) :
    (s.answerReadInventory p tag e).standing = s.standing := by
  simp only [Ctl.answerReadInventory]
  (repeat' split) <;> simp
@[simp] theorem Ctl.answerReserve_standing (s : Ctl) (p : Requester) (tag e : Nat) :
    (s.answerReserve p tag e).standing = s.standing := by
  simp only [Ctl.answerReserve]
  (repeat' split) <;> simp
@[simp] theorem Ctl.answerRelease_standing (s : Ctl) (p : Requester) (tag e : Nat) :
    (s.answerRelease p tag e).standing = s.standing := by
  simp only [Ctl.answerRelease]
  (repeat' split) <;> simp
@[simp] theorem Ctl.answerOpenDoor_standing (s : Ctl) (p : Requester) (tag m : Nat) :
    (s.answerOpenDoor p tag m).standing = s.standing := by
  simp only [Ctl.answerOpenDoor]
  (repeat' split) <;> simp
@[simp] theorem Ctl.answerGrantQuiesce_standing (s : Ctl) (p : Requester) (tag m : Nat) :
    (s.answerGrantQuiesce p tag m).standing = s.standing := by
  simp only [Ctl.answerGrantQuiesce]
  (repeat' split) <;> simp
@[simp] theorem Ctl.answerWithdrawQuiesce_standing (s : Ctl) (p : Requester) (tag m : Nat) :
    (s.answerWithdrawQuiesce p tag m).standing = s.standing := by
  simp only [Ctl.answerWithdrawQuiesce]
  (repeat' split) <;> simp
@[simp] theorem Ctl.answerImport_standing (s : Ctl) (p : Requester) (tag : Nat) (d : ImportDest) :
    (s.answerImport p tag d).standing = s.standing := by
  simp only [Ctl.answerImport]
  (repeat' split) <;> simp
@[simp] theorem Ctl.answerExport_standing (s : Ctl) (p : Requester) (tag : Nat) (l : Label) :
    (s.answerExport p tag l).standing = s.standing := by
  simp only [Ctl.answerExport]
  (repeat' split) <;> simp
@[simp] theorem Ctl.answerOrder_standing (s : Ctl) (p : Requester) (tag : Nat) (o : Option Order) :
    (s.answerOrder p tag o).standing = s.standing := by
  simp only [Ctl.answerOrder]
  (repeat' split) <;> simp
@[simp] theorem Ctl.answerCancelMove_standing (s : Ctl) (p : Requester) (tag id : Nat) :
    (s.answerCancelMove p tag id).standing = s.standing := by
  simp only [Ctl.answerCancelMove]
  (repeat' split) <;> simp
@[simp] theorem Ctl.answerResumePicker_standing (s : Ctl) (p : Requester) (tag : Nat) :
    (s.answerResumePicker p tag).standing = s.standing := by
  simp only [Ctl.answerResumePicker]
  (repeat' split) <;> simp
@[simp] theorem Ctl.answerReadQueue_standing (s : Ctl) (p : Requester) (tag : Nat) :
    (s.answerReadQueue p tag).standing = s.standing := by simp [Ctl.answerReadQueue]
@[simp] theorem Ctl.answerClearAcclimation_standing (s : Ctl) (p : Requester) (tag : Nat) (l : Label) :
    (s.answerClearAcclimation p tag l).standing = s.standing := by
  simp only [Ctl.answerClearAcclimation]
  (repeat' split) <;> simp
@[simp] theorem Ctl.answerReadClimate_standing (s : Ctl) (p : Requester) (tag : Nat) :
    (s.answerReadClimate p tag).standing = s.standing := by simp [Ctl.answerReadClimate]
@[simp] theorem Ctl.answerReadCartridge_standing (s : Ctl) (p : Requester) (tag : Nat) (l : Label) :
    (s.answerReadCartridge p tag l).standing = s.standing := by
  simp only [Ctl.answerReadCartridge]
  (repeat' split) <;> simp
@[simp] theorem Ctl.answerReadSet_standing (s : Ctl) (p : Requester) (tag set : Nat) (part : SetPart) :
    (s.answerReadSet p tag set part).standing = s.standing := by
  simp only [Ctl.answerReadSet]
  (repeat' split) <;> simp
@[simp] theorem Ctl.answerListSets_standing (s : Ctl) (p : Requester) (tag : Nat) (f : SetFilter) (start : Nat) :
    (s.answerListSets p tag f start).standing = s.standing := by
  simp only [Ctl.answerListSets]
  (repeat' split) <;> simp
@[simp] theorem Ctl.answerExpireSet_standing (s : Ctl) (p : Requester) (tag set today : Nat) :
    (s.answerExpireSet p tag set today).standing = s.standing := by
  simp only [Ctl.answerExpireSet]
  (repeat' split) <;> simp
@[simp] theorem Ctl.answerSetRetention_standing (s : Ctl) (p : Requester) (tag set days : Nat) :
    (s.answerSetRetention p tag set days).standing = s.standing := by
  simp only [Ctl.answerSetRetention]
  (repeat' split) <;> simp
@[simp] theorem Ctl.answerReclaim_standing (s : Ctl) (p : Requester) (tag : Nat) (l : Label) :
    (s.answerReclaim p tag l).standing = s.standing := by
  simp only [Ctl.answerReclaim]
  (repeat' split) <;> simp
@[simp] theorem Ctl.answerForget_standing (s : Ctl) (p : Requester) (tag : Nat) (l : Label) :
    (s.answerForget p tag l).standing = s.standing := by
  simp only [Ctl.answerForget]
  (repeat' split) <;> simp
@[simp] theorem Ctl.answerReadDictionary_standing (s : Ctl) (p : Requester) (tag slot : Nat) :
    (s.answerReadDictionary p tag slot).standing = s.standing := by
  simp only [Ctl.answerReadDictionary]
  (repeat' split) <;> simp
@[simp] theorem Ctl.answerOpenSet_standing (s : Ctl) (p : Requester) (tag ch : Nat) (target : TargetArg) (hint dict ret today yield : Nat) :
    (s.answerOpenSet p tag ch target hint dict ret today yield).standing = s.standing := by
  simp only [Ctl.answerOpenSet]
  (repeat' split) <;> simp
@[simp] theorem Ctl.answerSync_standing (s : Ctl) (p : Requester) (tag set : Nat) :
    (s.answerSync p tag set).standing = s.standing := by
  simp only [Ctl.answerSync]
  (repeat' split) <;> simp
@[simp] theorem Ctl.answerCloseSet_standing (s : Ctl) (p : Requester) (tag set : Nat) :
    (s.answerCloseSet p tag set).standing = s.standing := by
  simp only [Ctl.answerCloseSet]
  (repeat' split) <;> simp
@[simp] theorem Ctl.answerAbortSet_standing (s : Ctl) (p : Requester) (tag set : Nat) :
    (s.answerAbortSet p tag set).standing = s.standing := by
  simp only [Ctl.answerAbortSet]
  (repeat' split) <;> simp
@[simp] theorem Ctl.answerVerifySet_standing (s : Ctl) (p : Requester) (tag set : Nat) :
    (s.answerVerifySet p tag set).standing = s.standing := by
  simp only [Ctl.answerVerifySet]
  (repeat' split) <;> simp
@[simp] theorem Ctl.answerCancelVerify_standing (s : Ctl) (p : Requester) (tag set : Nat) :
    (s.answerCancelVerify p tag set).standing = s.standing := by
  simp only [Ctl.answerCancelVerify]
  (repeat' split) <;> simp
@[simp] theorem Ctl.answerReadVerify_standing (s : Ctl) (p : Requester) (tag : Nat) :
    (s.answerReadVerify p tag).standing = s.standing := by simp [Ctl.answerReadVerify]
@[simp] theorem Ctl.answerRestore_standing (s : Ctl) (p : Requester) (tag set first : Nat) (count : CountArg) (damage : Nat) :
    (s.answerRestore p tag set first count damage).standing = s.standing := by
  simp only [Ctl.answerRestore]
  (repeat' split) <;> simp
@[simp] theorem Ctl.answerCancelRestore_standing (s : Ctl) (p : Requester) (tag id : Nat) :
    (s.answerCancelRestore p tag id).standing = s.standing := by
  simp only [Ctl.answerCancelRestore]
  (repeat' split) <;> simp
@[simp] theorem Ctl.answerCheckpoint_standing (s : Ctl) (p : Requester) (tag : Nat) :
    (s.answerCheckpoint p tag).standing = s.standing := by simp [Ctl.answerCheckpoint]
@[simp] theorem Ctl.answerReadStore_standing (s : Ctl) (p : Requester) (tag : Nat) :
    (s.answerReadStore p tag).standing = s.standing := by simp [Ctl.answerReadStore]
@[simp] theorem Ctl.answerRecover_standing (s : Ctl) (p : Requester) (tag : Nat) (l : Label) :
    (s.answerRecover p tag l).standing = s.standing := by
  simp only [Ctl.answerRecover]
  (repeat' split) <;> simp
@[simp] theorem Ctl.answerLinkReset_standing (s : Ctl) (p : Requester) (tag n : Nat) :
    (s.answerLinkReset p tag n).standing = s.standing := by
  simp only [Ctl.answerLinkReset]
  (repeat' split) <;> simp

/-! ## The settings stand (R82, and every command that sets none) -/

section
variable {s t : State} {f : Ctl → Ctl} {p : Requester} {r : Req} {g : Nat → Ctl → Ctl}

theorem State.run_standing (hf : ∀ k, (f k).standing = k.standing) (h : s.run f = .next t) : t.ctl.standing = s.ctl.standing := by
  cases h
  exact hf s.ctl

/-- What is due when a command ends sets nothing. -/
theorem State.act_standing (hf : ∀ k, (f k).standing = k.standing) (h : s.act f = .next t) : t.ctl.standing = s.ctl.standing :=
  State.run_standing (fun k => (f k).commandEnd_standing.trans (hf k)) h

theorem State.runRequest_standing (hg : ∀ tag k, (g tag k).standing = k.standing) (h : (s.run fun k => k.takeRequest p r g) = .next t) :
    t.ctl.standing = s.ctl.standing :=
  State.run_standing (fun k => k.takeRequest_standing p r g hg) h

theorem State.actRequest_standing (hg : ∀ tag k, (g tag k).standing = k.standing) (h : (s.act fun k => k.takeRequest p r g) = .next t) :
    t.ctl.standing = s.ctl.standing :=
  State.act_standing (fun k => k.takeRequest_standing p r g hg) h

end

/-- A command that sets nothing leaves every setting as it is: each command's own effect does, and so does what is due when it ends. -/
theorem exec_standing {i : Instr} {s t : State} (hset : setsStanding i = false) (h : exec i s = .next t) : t.ctl.standing = s.ctl.standing := by
  cases i with
  | powerUp | setProtect | keySwitchChange | setWatch | setClimateInterval | setAcclimation | sampleIntervalExpiry | sensorAnswer
  | sensorNoAnswer | writeDictionary | setVerifyPolicy | setAutoCheckpoint | imageReadDone | flashErrorReport | flashTimerExpiry
  | libraryReset | reload => cases hset
  | requestFrame p tag code args => exact State.run_standing (fun k => k.requestArrives_standing p _) h
  | badRequest p => exact State.run_standing (fun k => k.refuseBad_standing p) h
  | readInventory p e => exact State.runRequest_standing (fun tag k => k.answerReadInventory_standing p tag e) h
  | reserve p e => exact State.runRequest_standing (fun tag k => k.answerReserve_standing p tag e) h
  | release p e => exact State.runRequest_standing (fun tag k => k.answerRelease_standing p tag e) h
  | openDoor p m => exact State.runRequest_standing (fun tag k => k.answerOpenDoor_standing p tag m) h
  | grantQuiesce p m => exact State.runRequest_standing (fun tag k => k.answerGrantQuiesce_standing p tag m) h
  | withdrawQuiesce p m => exact State.actRequest_standing (fun tag k => k.answerWithdrawQuiesce_standing p tag m) h
  | importCart p d => exact State.runRequest_standing (fun tag k => k.answerImport_standing p tag d) h
  | exportCart p l => exact State.runRequest_standing (fun tag k => k.answerExport_standing p tag l) h
  | move p src dst => exact State.runRequest_standing (fun tag k => k.answerOrder_standing p tag _) h
  | load p src dst => exact State.runRequest_standing (fun tag k => k.answerOrder_standing p tag _) h
  | unload p src dst => exact State.runRequest_standing (fun tag k => k.answerOrder_standing p tag _) h
  | cancelMove p id => exact State.runRequest_standing (fun tag k => k.answerCancelMove_standing p tag id) h
  | resumePicker p => exact State.runRequest_standing (fun tag k => k.answerResumePicker_standing p tag) h
  | readQueue p => exact State.runRequest_standing (fun tag k => k.answerReadQueue_standing p tag) h
  | clearAcclimation p l => exact State.runRequest_standing (fun tag k => k.answerClearAcclimation_standing p tag l) h
  | readClimate p => exact State.runRequest_standing (fun tag k => k.answerReadClimate_standing p tag) h
  | readCartridge p l => exact State.runRequest_standing (fun tag k => k.answerReadCartridge_standing p tag l) h
  | readSet p set part => exact State.runRequest_standing (fun tag k => k.answerReadSet_standing p tag set part) h
  | listSets p f start => exact State.runRequest_standing (fun tag k => k.answerListSets_standing p tag f start) h
  | expireSet p set today => exact State.actRequest_standing (fun tag k => k.answerExpireSet_standing p tag set today) h
  | setRetention p set days => exact State.runRequest_standing (fun tag k => k.answerSetRetention_standing p tag set days) h
  | reclaim p l => exact State.runRequest_standing (fun tag k => k.answerReclaim_standing p tag l) h
  | forgetCartridge p l => exact State.runRequest_standing (fun tag k => k.answerForget_standing p tag l) h
  | readDictionary p slot => exact State.runRequest_standing (fun tag k => k.answerReadDictionary_standing p tag slot) h
  | openSet p ch target hint dict ret today yield => exact State.actRequest_standing (fun tag k => k.answerOpenSet_standing p tag ch target hint dict ret today yield) h
  | sync p set => exact State.actRequest_standing (fun tag k => k.answerSync_standing p tag set) h
  | closeSet p set => exact State.actRequest_standing (fun tag k => k.answerCloseSet_standing p tag set) h
  | abortSet p set => exact State.actRequest_standing (fun tag k => k.answerAbortSet_standing p tag set) h
  | verifySet p set => exact State.runRequest_standing (fun tag k => k.answerVerifySet_standing p tag set) h
  | cancelVerify p set => exact State.actRequest_standing (fun tag k => k.answerCancelVerify_standing p tag set) h
  | readVerify p => exact State.runRequest_standing (fun tag k => k.answerReadVerify_standing p tag) h
  | restore p set first count damage => exact State.actRequest_standing (fun tag k => k.answerRestore_standing p tag set first count damage) h
  | cancelRestore p id => exact State.actRequest_standing (fun tag k => k.answerCancelRestore_standing p tag id) h
  | checkpoint p => exact State.runRequest_standing (fun tag k => k.answerCheckpoint_standing p tag) h
  | readStore p => exact State.runRequest_standing (fun tag k => k.answerReadStore_standing p tag) h
  | recoverCartridge p l => exact State.actRequest_standing (fun tag k => k.answerRecover_standing p tag l) h
  | linkReset p l => exact State.actRequest_standing (fun tag k => k.answerLinkReset_standing p tag l) h
  | dataOut l ch flags payload => exact State.act_standing (fun k => k.dataOut_standing l ch flags payload) h
  | creditFrameReceived l ch count => exact State.run_standing (fun k => k.creditFrame_standing l ch count) h
  | damagedFrame p => exact State.act_standing (fun k => k.frameDamaged_standing p) h
  | frameSent l => exact State.act_standing (fun k => k.frameSent_standing l) h
  | panelRead whole => exact State.run_standing (fun k => k.setPanel_standing _) h
  | lockGained l => exact State.run_standing (fun k => k.lockGained_standing l) h
  | lockLost l => exact State.run_standing (fun k => k.lockLost_standing l) h
  | offlineTimerExpiry l => exact State.act_standing (fun k => k.offlineExpired_standing l) h
  | doorSwitchOpen m => exact State.run_standing (fun k => k.doorSwitchOpened_standing m) h
  | doorSwitchClosed m => exact State.run_standing (fun k => k.doorSwitchShut_standing m) h
  | mailSwitchOpen => exact State.run_standing Ctl.mailSwitchOpened_standing h
  | mailSwitchClosed => exact State.run_standing Ctl.mailSwitchShut_standing h
  | askTimerExpiry m => exact State.act_standing (fun k => k.askExpired_standing m) h
  | doorOpenTimerExpiry m => exact State.act_standing (fun k => k.openExpired_standing m) h
  | mailOpenTimerExpiry => exact State.run_standing Ctl.mailExpired_standing h
  | doorUnlock m => exact State.run_standing (fun k => k.doorTest_standing m) h
  | orderStart => exact State.act_standing Ctl.orderStart_standing h
  | fetchDone r => exact State.act_standing (fun k => k.fetchReport_standing r) h
  | fetchEmpty => exact State.act_standing Ctl.fetchEmptyReport_standing h
  | putDone => exact State.act_standing Ctl.putReport_standing h
  | readDone r => exact State.act_standing (fun k => k.readReport_standing r) h
  | homeDone holding transportHolds => exact State.act_standing (fun k => k.homeReport_standing holding transportHolds) h
  | gripFault => exact State.act_standing Ctl.gripReport_standing h
  | pathBlocked => exact State.act_standing Ctl.blockedReport_standing h
  | commandTimerExpiry => exact State.act_standing Ctl.commandExpired_standing h
  | threaded c tab => exact State.act_standing (fun k => k.threadedReport_standing c tab) h
  | ejected c => exact State.act_standing (fun k => k.ejectedReport_standing c) h
  | positioned c => exact State.act_standing (fun k => k.positionedReport_standing c) h
  | blockRead c bytes => exact State.act_standing (fun k => k.blockReadReport_standing c bytes) h
  | blockUnreadable c => exact State.act_standing (fun k => k.blockUnreadableReport_standing c) h
  | endOfData c recordedEnd => exact State.act_standing (fun k => k.endOfDataReport_standing c recordedEnd) h
  | blockWritten c => exact State.act_standing (fun k => k.blockWrittenReport_standing c) h
  | endOfMedia c => exact State.act_standing (fun k => k.endOfMediaReport_standing c) h
  | transportFault c kind => exact State.act_standing (fun k => k.faultReport_standing c kind) h
  | transportOrderTimerExpiry c => exact State.act_standing (fun k => k.transportTimeout_standing c) h
  | transportResetDone c r => exact State.run_standing (fun k => k.resetDone_standing c r) h
  | coderResult c => exact State.act_standing (fun k => k.coderReport_standing c) h
  | expanderReport c => exact State.act_standing (fun k => k.expanderDone_standing c) h
  | bankCodingStart c => exact State.run_standing (fun k => k.startCoding_standing c) h
  | creditGrant c => exact State.run_standing (fun k => k.grant_standing c) h
  | syncComplete c => exact State.run_standing (fun k => k.syncDone_standing c) h
  | summaryBlockWrite c => exact State.act_standing (fun k => ((k.closeProceed c).abortProceed_standing c).trans (k.closeProceed_standing c)) h
  | suspensionComplete c => exact State.act_standing (fun k => k.suspendTest_standing c) h
  | verifyEntryStart => exact State.act_standing (fun k => k.verifyRejudge.verifyStart_standing.trans k.verifyRejudge_standing) h
  | restorePlacement => exact State.act_standing Ctl.placeRestores_standing h
  | minuteTimerExpiry => exact State.run_standing Ctl.minute_standing h
  | needCartridgeTimerExpiry c => exact State.run_standing (fun k => k.needExpired_standing c) h
  | stallTimerExpiry c => exact State.act_standing (fun k => k.stallExpired_standing c) h
  | flashEraseDone => exact State.run_standing Ctl.eraseDone_standing h
  | flashProgramDone pageMatches lastPage => exact State.run_standing (fun k => k.programDone_standing pageMatches lastPage) h
  | commitMarkDone => exact State.run_standing Ctl.commitDone_standing h

/-! ## The dictionaries stand at the commands that set something else -/

theorem Ctl.dicts_of_standing {s t : Ctl} (h : t.standing = s.standing) : t.dicts = s.dicts := congrArg Standing.dicts h

/-- What taking a request can come to: nothing is taken, the request is NOT_PERMITTED, or its owner answers it (R176, R181). -/
theorem Ctl.takeRequest_cases {P : Ctl → Prop} {s : Ctl} {p : Requester} {r : Req} {f : Nat → Ctl → Ctl} (absent : P s)
    (forbidden : ∀ tag, P ((s.popRequest p).respond p tag .notPermitted)) (taken : ∀ tag, P (f tag (s.popRequest p))) : P (s.takeRequest p r f) := by
  unfold Ctl.takeRequest
  split
  next q hq =>
    split
    next hdecode =>
      split
      next hpermitted => exact taken q.tag
      next hforbidden => exact forbidden q.tag
    next hother => exact absent
  next hnone => exact absent

theorem Ctl.takeRequest_dicts (s : Ctl) (p : Requester) (r : Req) {f : Nat → Ctl → Ctl} (hf : ∀ tag k, (f tag k).dicts = k.dicts) :
    (s.takeRequest p r f).dicts = s.dicts :=
  Ctl.takeRequest_cases (P := fun k => k.dicts = s.dicts) rfl (fun tag => by simp) (fun tag => by simp [hf])

@[simp] theorem Ctl.changed_dicts (s : Ctl) : s.changed.dicts = s.dicts := rfl
@[simp] theorem Ctl.rechooseAll_dicts (s : Ctl) : s.rechooseAll.dicts = s.dicts := Ctl.dicts_of_standing s.rechooseAll_standing

/-! ### The Climate Monitor (chapter 3) -/

@[simp] theorem Ctl.setResult_dicts (s : Ctl) (w : WatchId) (r : WatchResult) : (s.setResult w r).dicts = s.dicts := rfl
@[simp] theorem Ctl.judgeHold_dicts (s : Ctl) : s.judgeHold.dicts = s.dicts := by
  simp only [Ctl.judgeHold]
  (repeat' split) <;> simp
@[simp] theorem Ctl.clearFailures_dicts (s : Ctl) : s.clearFailures.dicts = s.dicts := by
  simp only [Ctl.clearFailures]
  split <;> simp
@[simp] theorem Ctl.restartSampling_dicts (s : Ctl) (first : WatchId) : (s.restartSampling first).dicts = s.dicts := by
  simp only [Ctl.restartSampling]
  (repeat' split) <;> simp
@[simp] theorem Ctl.readingFailed_dicts (s : Ctl) (w : WatchId) : (s.readingFailed w).dicts = s.dicts := by
  simp only [Ctl.readingFailed]
  split <;> simp
@[simp] theorem Ctl.readingDone_dicts (s : Ctl) (w : WatchId) (v : Int) : (s.readingDone w v).dicts = s.dicts := by
  simp only [Ctl.readingDone]
  split <;> simp
@[simp] theorem Ctl.resetClimate_dicts (s : Ctl) : s.resetClimate.dicts = s.dicts := by simp [Ctl.resetClimate]
theorem Ctl.sample_dicts (s : Ctl) : s.sample.dicts = s.dicts := by
  simp only [Ctl.sample]
  split <;> simp
theorem Ctl.sensorAnswer_dicts (s : Ctl) (r : SensorReply) : (s.sensorAnswer r).dicts = s.dicts := by
  simp only [Ctl.sensorAnswer]
  (repeat' split) <;> simp
theorem Ctl.sensorSilent_dicts (s : Ctl) : s.sensorSilent.dicts = s.dicts := by
  simp only [Ctl.sensorSilent]
  split <;> simp
theorem Ctl.answerSetWatch_dicts (s : Ctl) (p : Requester) (tag w en q : Nat) (thr : Int) (dir act : Nat) :
    (s.answerSetWatch p tag w en q thr dir act).dicts = s.dicts := by
  simp only [Ctl.answerSetWatch, Ctl.rewriteWatch]
  split <;> simp
theorem Ctl.answerSetClimateInterval_dicts (s : Ctl) (p : Requester) (tag secs : Nat) : (s.answerSetClimateInterval p tag secs).dicts = s.dicts := by
  simp [Ctl.answerSetClimateInterval, Ctl.setInterval]
theorem Ctl.answerSetAcclimation_dicts (s : Ctl) (p : Requester) (tag mins : Nat) : (s.answerSetAcclimation p tag mins).dicts = s.dicts := by
  simp [Ctl.answerSetAcclimation]

/-! ### The other settings (R7, R140, R167) -/

theorem Ctl.answerSetProtect_dicts (s : Ctl) (p : Requester) (tag dir idx : Nat) : (s.answerSetProtect p tag dir idx).dicts = s.dicts := by
  simp only [Ctl.answerSetProtect]
  (repeat' split) <;> simp
theorem Ctl.answerSetPolicy_dicts (s : Ctl) (p : Requester) (tag : Nat) (q : Option Policy) : (s.answerSetPolicy p tag q).dicts = s.dicts := by
  simp only [Ctl.answerSetPolicy, Ctl.setPolicy]
  split <;> simp
theorem Ctl.answerSetAuto_dicts (s : Ctl) (p : Requester) (tag v : Nat) : (s.answerSetAuto p tag v).dicts = s.dicts := by
  simp only [Ctl.answerSetAuto, Ctl.setAuto]
  split <;> simp

/-! ### LIBRARY_RESET, RELOAD's begin, and an image that cannot be read (R171, R182) -/

/-- Around the Climate Monitor's part, a reset of every block sets nothing. -/
@[simp] theorem Ctl.resetAll_dicts (s : Ctl) (keep : List Response) (cause : ResetCause) : (s.resetAll keep cause).dicts = s.dicts := by
  have htransport : ∀ (k : Ctl) (c : Chan), (k.transportReset c).dicts = k.dicts := fun k c => Ctl.dicts_of_standing (k.transportReset_standing c)
  simp only [Ctl.resetAll, htransport, Ctl.resetClimate_dicts]
  exact Ctl.dicts_of_standing (by simp)

theorem Ctl.answerLibraryReset_dicts (s : Ctl) (p : Requester) (tag : Nat) : (s.answerLibraryReset p tag).dicts = s.dicts := by
  simp only [Ctl.answerLibraryReset]
  (repeat' split) <;> simp
theorem Ctl.answerReload_dicts (s : Ctl) (p : Requester) (tag : Nat) : (s.answerReload p tag).dicts = s.dicts := by
  simp only [Ctl.answerReload, Ctl.beginReload]
  (repeat' split) <;> simp

/-- After a RELOAD's image the elements are UNCERTAIN and a scan is raised; sampling restarts, and a pending checkpoint starts. -/
theorem Ctl.reloadScan_dicts (s : Ctl) : s.reloadScan.dicts = s.dicts := by
  have hstart : ∀ k : Ctl, k.startPending.dicts = k.dicts := fun k => Ctl.dicts_of_standing k.startPending_standing
  have hraise : ∀ (k : Ctl) (o : Order), (k.raiseOrder o).dicts = k.dicts := fun k o => Ctl.dicts_of_standing (k.raiseOrder_standing o)
  simp only [Ctl.reloadScan, hstart, Ctl.resetClimate_dicts, hraise]

/-- An image that is not good replaces nothing (R171). -/
theorem Ctl.reloadRead_bad_dicts (s : Ctl) : (s.reloadRead false).dicts = s.dicts := by
  simp [Ctl.reloadRead, Ctl.reloadScan_dicts, Ctl.reloadOver]

theorem Ctl.flashFailed_dicts (s : Ctl) : s.flashFailed.dicts = s.dicts := by
  unfold Ctl.flashFailed
  split
  next => rfl
  next => exact s.reloadRead_bad_dicts
  next => exact Ctl.dicts_of_standing s.checkpointFailed_standing

/-! ## The commands that leave the dictionaries as they are -/

section
variable {s t : State} {f : Ctl → Ctl} {p : Requester} {r : Req} {g : Nat → Ctl → Ctl}

theorem State.run_dicts (hf : ∀ k, (f k).dicts = k.dicts) (h : s.run f = .next t) : t.ctl.dicts = s.ctl.dicts := by
  cases h
  exact hf s.ctl

theorem State.act_dicts (hf : ∀ k, (f k).dicts = k.dicts) (h : s.act f = .next t) : t.ctl.dicts = s.ctl.dicts :=
  State.run_dicts (fun k => (Ctl.dicts_of_standing (f k).commandEnd_standing).trans (hf k)) h

theorem State.runRequest_dicts (hg : ∀ tag k, (g tag k).dicts = k.dicts) (h : (s.run fun k => k.takeRequest p r g) = .next t) :
    t.ctl.dicts = s.ctl.dicts :=
  State.run_dicts (fun k => k.takeRequest_dicts p r hg) h

theorem State.actRequest_dicts (hg : ∀ tag k, (g tag k).dicts = k.dicts) (h : (s.act fun k => k.takeRequest p r g) = .next t) :
    t.ctl.dicts = s.ctl.dicts :=
  State.act_dicts (fun k => k.takeRequest_dicts p r hg) h

end

/-- Of the commands that set something, all but the loads of an image and WRITE_DICTIONARY set something else than a dictionary. -/
theorem exec_dicts {i : Instr} {s t : State} (hpower : ∀ sense a b intact, i ≠ .powerUp sense a b intact) (himage : ∀ intact, i ≠ .imageReadDone intact)
    (hwrite : ∀ p n bs, i ≠ .writeDictionary p n bs) (h : exec i s = .next t) : t.ctl.dicts = s.ctl.dicts := by
  by_cases hset : setsStanding i = false
  · exact Ctl.dicts_of_standing (exec_standing hset h)
  · cases i with
    | powerUp sense a b intact => exact absurd rfl (hpower sense a b intact)
    | imageReadDone intact => exact absurd rfl (himage intact)
    | writeDictionary p n bs => exact absurd rfl (hwrite p n bs)
    | setProtect p dir idx => exact State.runRequest_dicts (fun tag k => k.answerSetProtect_dicts p tag dir idx) h
    | keySwitchChange key => exact State.run_dicts (fun k => k.setKey_dicts key) h
    | setWatch p w en q thr dir act => exact State.runRequest_dicts (fun tag k => k.answerSetWatch_dicts p tag w en q thr dir act) h
    | setClimateInterval p secs => exact State.runRequest_dicts (fun tag k => k.answerSetClimateInterval_dicts p tag secs) h
    | setAcclimation p mins => exact State.runRequest_dicts (fun tag k => k.answerSetAcclimation_dicts p tag mins) h
    | sampleIntervalExpiry => exact State.run_dicts Ctl.sample_dicts h
    | sensorAnswer r => exact State.run_dicts (fun k => k.sensorAnswer_dicts r) h
    | sensorNoAnswer => exact State.run_dicts Ctl.sensorSilent_dicts h
    | setVerifyPolicy p trig skip passes mode pat overlap => exact State.runRequest_dicts (fun tag k => k.answerSetPolicy_dicts p tag _) h
    | setAutoCheckpoint p v => exact State.runRequest_dicts (fun tag k => k.answerSetAuto_dicts p tag v) h
    | flashErrorReport => exact State.act_dicts Ctl.flashFailed_dicts h
    | flashTimerExpiry => exact State.act_dicts Ctl.flashFailed_dicts h
    | libraryReset p => exact State.actRequest_dicts (fun tag k => k.answerLibraryReset_dicts p tag) h
    | reload p => exact State.actRequest_dicts (fun tag k => k.answerReload_dicts p tag) h
    | _ => exact absurd rfl hset

/-! ## Dictionary slots (R81, R82) -/

/-- A slot from 1 to 3 that is written holds the bytes, and its generation goes up by one, from 255 to 0. -/
theorem Dicts.slot?_write_same (d : Dicts) (bs : List Byte) {n : Nat} (h1 : 1 ≤ n) (h3 : n ≤ 3) :
    (d.write n bs).slot? n = some { bytes := bs, generation := (d.gen n + 1) % 256 } := by
  obtain rfl | rfl | rfl : n = 1 ∨ n = 2 ∨ n = 3 := by omega
  all_goals rfl

theorem Dicts.slot?_write_other (d : Dicts) (bs : List Byte) {m n : Nat} (h : m ≠ n) : (d.write n bs).slot? m = d.slot? m := by
  unfold Dicts.write
  split
  all_goals
    unfold Dicts.slot?
    split <;> simp_all

theorem Dicts.gen_eq {d : Dicts} {n : Nat} {x : DictSlot} (h : d.slot? n = some x) : d.gen n = x.generation := by simp [Dicts.gen, h]

/-- A slot is referenced where a set that is not EXPIRED names it at its generation; slot 0 never is (R68). -/
theorem Ctl.dictReferenced_iff (k : Ctl) {n : Nat} (h0 : n ≠ 0) :
    k.dictReferenced n = true ↔ ∃ r ∈ k.cat.sets, r.dict = n ∧ r.dictGen = k.dicts.gen n ∧ r.state ≠ .expired := by
  simp [Ctl.dictReferenced, Catalog.references, h0, and_assoc]

/-! ## WRITE_DICTIONARY (R82) -/

section
variable (k : Ctl) (p : Requester) (tag : Nat) {n : Nat} {bs : List Byte}

theorem Ctl.answerWriteDictionary_badArgument (h : n = 0 ∨ 3 < n ∨ 1024 < bs.length) : k.answerWriteDictionary p tag n bs = k.respond p tag .badArgument :=
  if_pos h

theorem Ctl.answerWriteDictionary_inUse (h1 : 1 ≤ n) (h3 : n ≤ 3) (hlen : bs.length ≤ 1024) (href : k.dictReferenced n = true) :
    k.answerWriteDictionary p tag n bs = k.respond p tag .dictionaryInUse := by
  have hargs : ¬(n = 0 ∨ 3 < n ∨ 1024 < bs.length) := by omega
  exact (if_neg hargs).trans (if_pos href)

theorem Ctl.answerWriteDictionary_written (h1 : 1 ≤ n) (h3 : n ≤ 3) (hlen : bs.length ≤ 1024) (href : ¬k.dictReferenced n = true) :
    k.answerWriteDictionary p tag n bs =
      { k.respond p tag .ok (.generation ((k.dicts.gen n + 1) % 256)) with dicts := k.dicts.write n bs, store := k.store.noteChange } := by
  have hargs : ¬(n = 0 ∨ 3 < n ∨ 1024 < bs.length) := by omega
  have hgen := Dicts.gen_eq (k.dicts.slot?_write_same bs h1 h3)
  refine (if_neg hargs).trans ((if_neg href).trans ?_)
  simp [hgen, Ctl.changed, Ctl.setDicts, Ctl.setStore]

/-- A referenced slot is never the one that is written. -/
theorem Ctl.answerWriteDictionary_slot?_referenced (m : Nat) (bs : List Byte)
    (href : ∃ r ∈ k.cat.sets, r.dict = n ∧ r.dictGen = k.dicts.gen n ∧ r.state ≠ .expired) :
    (k.answerWriteDictionary p tag m bs).dicts.slot? n = k.dicts.slot? n := by
  by_cases hbad : m = 0 ∨ 3 < m ∨ 1024 < bs.length
  · simp [k.answerWriteDictionary_badArgument p tag hbad]
  · have h1 : 1 ≤ m := by omega
    have h3 : m ≤ 3 := by omega
    have hlen : bs.length ≤ 1024 := by omega
    by_cases hused : k.dictReferenced m = true
    · simp [k.answerWriteDictionary_inUse p tag h1 h3 hlen hused]
    · have hne : n ≠ m := by
        rintro rfl
        exact hused ((k.dictReferenced_iff (by omega)).2 href)
      simp [k.answerWriteDictionary_written p tag h1 h3 hlen hused, Dicts.slot?_write_other _ _ hne]

end

/-- A WRITE_DICTIONARY at the head of a link's queue is answered for its slot. -/
theorem exec_writeDictionary_atHead {s : State} {l : Link} {q : QueuedReq} {n : Nat} {bs : List Byte} (h : AtHead s (.link l) q (.writeDictionary n bs)) :
    exec (.writeDictionary (.link l) n bs) s = .next (s.withCtl ((s.ctl.popRequest (.link l)).answerWriteDictionary (.link l) q.tag n bs)) := by
  change Host.Outcome.next (s.withCtl (s.ctl.takeRequest (.link l) (.writeDictionary n bs) _)) = _
  rw [Ctl.takeRequest_permitted _ h rfl]

/-- The panel may not write a dictionary (R181). -/
theorem exec_writeDictionary_panel {s : State} {q : QueuedReq} {n : Nat} {bs : List Byte} (h : AtHead s .panel q (.writeDictionary n bs)) :
    exec (.writeDictionary .panel n bs) s = .next (s.withCtl (s.ctl.afterAnswer .panel q .notPermitted)) := by
  change Host.Outcome.next (s.withCtl (s.ctl.takeRequest .panel (.writeDictionary n bs) _)) = _
  rw [Ctl.takeRequest_forbidden _ h rfl]

/-- Whoever sends it, and wherever it stands, a WRITE_DICTIONARY leaves a referenced slot as it is. -/
theorem exec_writeDictionary_slot?_referenced {s t : State} {p : Requester} {m n : Nat} {bs : List Byte} (h : exec (.writeDictionary p m bs) s = .next t)
    (href : ∃ r ∈ s.ctl.cat.sets, r.dict = n ∧ r.dictGen = s.ctl.dicts.gen n ∧ r.state ≠ .expired) : t.ctl.dicts.slot? n = s.ctl.dicts.slot? n := by
  cases h
  refine Ctl.takeRequest_cases (P := fun k => k.dicts.slot? n = s.ctl.dicts.slot? n) rfl (fun tag => by simp) fun tag => ?_
  have hkept := (s.ctl.popRequest p).answerWriteDictionary_slot?_referenced p tag m bs (by simpa using href)
  rwa [Ctl.popRequest_dicts] at hkept

/-- The law of dictionaries (R82): a WRITE_DICTIONARY refuses a referenced slot, and no other command but the loads of an image writes one. -/
theorem exec_slot?_referenced {i : Instr} {s t : State} {n : Nat} (h : exec i s = .next t) (hpower : ∀ sense a b intact, i ≠ .powerUp sense a b intact)
    (himage : ∀ intact, i ≠ .imageReadDone intact)
    (href : ∃ r ∈ s.ctl.cat.sets, r.dict = n ∧ r.dictGen = s.ctl.dicts.gen n ∧ r.state ≠ .expired) : t.ctl.dicts.slot? n = s.ctl.dicts.slot? n := by
  by_cases hwrite : ∃ p m bs, i = .writeDictionary p m bs
  · obtain ⟨p, m, bs, rfl⟩ := hwrite
    exact exec_writeDictionary_slot?_referenced h href
  · have hother : ∀ p m bs, i ≠ .writeDictionary p m bs := fun p m bs heq => hwrite ⟨p, m, bs, heq⟩
    rw [exec_dicts hpower himage hother h]

end Sys2Proof.Machine

section
open Sys2Proof Sys2Proof.Machine

/-- Settles O31: WRITE_DICTIONARY by the checks of R82 in their order, and the law of dictionaries by what each command may write. -/
theorem dictionaryWritten : Obligations.DictionaryWritten := by
  refine ⟨fun s l q n bs hhead => ?_, fun s q n bs hhead => exec_writeDictionary_panel hhead,
    fun i s t n h hpower himage href => exec_slot?_referenced h hpower himage href⟩
  intro x g
  have hexec := exec_writeDictionary_atHead hhead
  constructor
  · intro hbad
    exact hexec.trans (by rw [Ctl.answerWriteDictionary_badArgument _ _ _ hbad]; rfl)
  · intro h1 h3 hlen
    have hused := (s.ctl.popRequest (.link l)).dictReferenced_iff (show n ≠ 0 by omega)
    simp only [Ctl.popRequest_cat, Ctl.popRequest_dicts] at hused
    constructor
    · intro href
      exact hexec.trans (by rw [Ctl.answerWriteDictionary_inUse _ _ _ h1 h3 hlen (hused.2 href)]; rfl)
    · intro hfree
      have hunused : ¬(s.ctl.popRequest (.link l)).dictReferenced n = true := by
        rw [hused]
        rintro ⟨r, hr, hslot, hgen, hstands⟩
        exact hstands (hfree r hr hslot hgen)
      have hwritten := Ctl.answerWriteDictionary_written _ (.link l) q.tag h1 h3 hlen hunused
      simp only [Ctl.popRequest_dicts, Ctl.popRequest_store] at hwritten
      refine ⟨s.ctl.dicts.write n bs, hexec.trans (by rw [hwritten]; rfl), s.ctl.dicts.slot?_write_same bs h1 h3,
        fun m hm => s.ctl.dicts.slot?_write_other bs hm⟩

end
